-- ==== Sys2Proof/Word.lean ====
section
/-! DEFINITION. The word types of FRC16-ED (spec/00_scope.md R7): the widths the spec fixes, as plain bit vectors. -/

namespace Sys2Proof

/-- An 8-bit operation label `op[7:0]` (R44). -/
abbrev Byte := BitVec 8

/-- A 16-bit register value or bus data (REG_W = CNT_W = 16, R7). -/
abbrev Word := BitVec 16

/-- A byte offset `A[3:0]` in the 16-byte register window (R31, R45). -/
abbrev Offset := BitVec 4

/-- The 32-bit unsigned result of `measure` (RESULT_W, R7). -/
abbrev Long := BitVec 32

end Sys2Proof
end

