-- ==== Sys2Proof/Config.lean ====
section
/-! DEFINITION. What an implementation fixes and what the spec leaves as a draw (spec/00_scope.md R8,
spec/93_implementation_defined.md U1 to U11). A constant without a body is a free value: nothing can be proved of
which value it is, so a claim about it holds for every value. -/

namespace Sys2Proof

/-- COUNT_RESET (U1): the 16-bit draw of the `n`-th reset, power-on being the 0-th. Log entry 3. -/
opaque Config.countReset : Nat → Word

/-- OVF_RESET (U2): the 1-bit draw of the `n`-th reset. Log entry 3. -/
opaque Config.ovfReset : Nat → Bool

/-- The draw for PREV at the `n`-th reset (U3). Log entry 3. -/
opaque Config.prevReset : Nat → Bool

/-- The level on the input at power-on (U4, R123). Log entry 4. -/
opaque Config.inputAtPowerOn : Bool

/-- FRC_BASE counted in windows of 16 bytes: the parameter is OPEN (U6). Log entry 14. -/
opaque Config.frcBlock : Nat

/-- FRC_BASE, a multiple of 16 (R8, R31). -/
def Config.frcBase : Nat := 16 * Config.frcBlock

/-- PULL_LEVEL (U5): the constant level a disconnected input shows (R19). Log entry 16. -/
opaque Config.pullLevel : Bool

/-- The numerator of TICK_RATE_HZ, less one (U9). Log entry 24. -/
opaque Config.tickRateNum : Nat

/-- The denominator of TICK_RATE_HZ, less one (U9). Log entry 24. -/
opaque Config.tickRateDen : Nat

/-- TICK_RATE_HZ (R8, U9): the parameter is OPEN, a positive number, and no rule depends on it. Taking it as a quotient
of whole numbers is the model's choice (log entry 24). -/
def Config.tickRateHz : Rat := ((Config.tickRateNum + 1 : Nat) : Rat) / ((Config.tickRateDen + 1 : Nat) : Rat)

/-- The counter modulus MOD = 65536 (R7). -/
def Config.modulus : Nat := 65536

/-- The default of SYNC_BOUND (R8). -/
def Config.syncBoundDefault : Nat := 5

/-- The default of MEAS_BOUND (R8). -/
def Config.measBoundDefault : Nat := 1024

/-- The largest MEAS_BOUND whose results fit 32 bits (R87, U11). -/
def Config.measBoundMax : Nat := 65535

end Sys2Proof
end

