-- ==== Sys2Proof/Syntax.lean ====
section
/-! DEFINITION. The operations of FRC16-ED: one constructor of Instr per row of spec/opcode_table.json
(spec/30_encoding.md R44 to R55), the agents that take them (spec/20_memory.md R28), the register names (R48), and the
two words one step is delivered as. -/

namespace Sys2Proof

/-- Every step of the block is one of these operations (R11). A bus write carries the data operand `d` = D[15:0]
(R46). The error accesses are operations too: they decode to an access that raises BusError (R55). -/
inductive Instr where
  /-- RD.W CNT (R59). -/
  | rdCnt
  /-- RD.W STAT (R61). -/
  | rdStat
  /-- RD.W CTRL (R63). -/
  | rdCtrl
  /-- RD.W PIN (R69). -/
  | rdPin
  /-- RD.W EDGE (R71). -/
  | rdEdge
  /-- RD.W at the reserved offset 0xA (R106). -/
  | rdUnmappedA
  /-- RD.W at the reserved offset 0xC (R106). -/
  | rdUnmappedC
  /-- RD.W at the reserved offset 0xE (R106). -/
  | rdUnmappedE
  /-- RD.W at an odd offset `a` (R105). -/
  | rdOdd (a : Offset)
  /-- RD.B at any offset `a` (R104). -/
  | rdByte (a : Offset)
  /-- WR.W CNT (R60). -/
  | wrCnt (d : Word)
  /-- WR.W STAT (R62). -/
  | wrStat (d : Word)
  /-- WR.W CTRL (R64). -/
  | wrCtrl (d : Word)
  /-- WR.W PIN (R70). -/
  | wrPin (d : Word)
  /-- WR.W EDGE (R72). -/
  | wrEdge (d : Word)
  /-- WR.W at the reserved offset 0xA (R106). -/
  | wrUnmappedA (d : Word)
  /-- WR.W at the reserved offset 0xC (R106). -/
  | wrUnmappedC (d : Word)
  /-- WR.W at the reserved offset 0xE (R106). -/
  | wrUnmappedE (d : Word)
  /-- WR.W at an odd offset `a` (R105). -/
  | wrOdd (a : Offset) (d : Word)
  /-- WR.B at any offset `a` (R104); `d` is D as it was delivered, taken whole (R46, R51). -/
  | wrByte (a : Offset) (d : Word)
  /-- TICK, the counter's increment (R57). -/
  | tick
  /-- IN_LOW, the environment drives the input low (R67). -/
  | inLow
  /-- IN_HIGH, the environment drives the input high (R68). -/
  | inHigh
  /-- RESET, the platform's reset of the block (R121). -/
  | reset
deriving DecidableEq, Repr

/-- One step as it is delivered: its 8-bit label and, for a bus write only, the 16-bit data operand delivered with
the label in the same step (R44, R46, R52). -/
structure StepWords where
  label : Byte
  data : Option Word
deriving DecidableEq, Repr

/-- The four agents that take steps (R28). -/
inductive Agent where
  | host
  | counter
  | env
  | platform
deriving DecidableEq, Repr

/-- The five registers of the window (R21 to R25). -/
inductive Reg where
  | cnt
  | stat
  | ctrl
  | pin
  | edge
deriving DecidableEq, Repr

/-- The size of a bus access: SZ = 0 (mnemonic suffix .B) or SZ = 1 (suffix .W) (R45). -/
inductive Width where
  | byte
  | word
deriving DecidableEq, Repr

end Sys2Proof
end

