-- ==== Sys2Proof/WellFormed.lean ====
section
/-! DEFINITION. Which terms of Instr are operations of spec/opcode_table.json: every term is, except that the two
misaligned rows (match 0x11 and 0x51, mask 0xF1) hold odd offsets only (R105). -/

namespace Sys2Proof

/-- The operation is one the encoding admits. -/
def Instr.wf : Instr → Bool
  | .rdOdd a => a.getLsbD 0
  | .wrOdd a _ => a.getLsbD 0
  | .rdCnt => true
  | .rdStat => true
  | .rdCtrl => true
  | .rdPin => true
  | .rdEdge => true
  | .rdUnmappedA => true
  | .rdUnmappedC => true
  | .rdUnmappedE => true
  | .rdByte _ => true
  | .wrCnt _ => true
  | .wrStat _ => true
  | .wrCtrl _ => true
  | .wrPin _ => true
  | .wrEdge _ => true
  | .wrUnmappedA _ => true
  | .wrUnmappedC _ => true
  | .wrUnmappedE _ => true
  | .wrByte _ _ => true
  | .tick => true
  | .inLow => true
  | .inHigh => true
  | .reset => true

end Sys2Proof
end

