-- ==== Sys2Proof/Decode.lean ====
section
/-! DEFINITION. The decoder of spec/30_encoding.md R49, total on all 256 labels, and the encoder written from the
formats BUS (R45) and EVT (R47). -/

namespace Sys2Proof

/-- Why the words of a step name no operation. The first three are the reserved labels of R50, refused at decode
(R108); the last two are deliveries that R44, R46 and R52 rule out (log entry 15). -/
inductive DecodeError where
  /-- Class 0b11, labels 0xC0 to 0xFF. -/
  | reservedClass
  /-- A bus label with RSV = 1, labels 0x20 to 0x3F and 0x60 to 0x7F. -/
  | reservedBusBit
  /-- An event label with op[5:3] not 0 or EV = 0b1xx, labels 0x84 to 0xBF. -/
  | reservedEvent
  /-- A bus write delivered without its data operand D. -/
  | missingData
  /-- A read or an event delivered with a data operand, which it does not have. -/
  | strayData
deriving DecidableEq, Repr

/-- The refusal is one of R50's reserved labels. -/
def DecodeError.isReservedLabel : DecodeError → Bool
  | .reservedClass => true
  | .reservedBusBit => true
  | .reservedEvent => true
  | .missingData => false
  | .strayData => false

/-- CLS, `op[7:6]` (R44). -/
def labelClass (op : Byte) : BitVec 2 := op.extractLsb' 6 2

/-- A, `op[3:0]`: unsigned, not scaled (R45, R51). -/
def labelOffset (op : Byte) : Offset := op.extractLsb' 0 4

/-- The class of a label is bus write, the one class that carries D (R44). -/
def labelCarriesData (op : Byte) : Bool := labelClass op == 0b01#2

/-- The arms of R49 for CLS = 0b00 and RSV = 0, in R49's order. The one even offset after 0xC is 0xE. -/
def decodeRead (sz : Bool) (a : Offset) : Instr :=
  if sz = false then .rdByte a
  else if a.getLsbD 0 then .rdOdd a
  else if a = 0x0#4 then .rdCnt
  else if a = 0x2#4 then .rdStat
  else if a = 0x4#4 then .rdCtrl
  else if a = 0x6#4 then .rdPin
  else if a = 0x8#4 then .rdEdge
  else if a = 0xA#4 then .rdUnmappedA
  else if a = 0xC#4 then .rdUnmappedC
  else .rdUnmappedE

/-- The arms of R49 for CLS = 0b01 and RSV = 0, in R49's order. The one even offset after 0xC is 0xE. -/
def decodeWrite (sz : Bool) (a : Offset) (d : Word) : Instr :=
  if sz = false then .wrByte a d
  else if a.getLsbD 0 then .wrOdd a d
  else if a = 0x0#4 then .wrCnt d
  else if a = 0x2#4 then .wrStat d
  else if a = 0x4#4 then .wrCtrl d
  else if a = 0x6#4 then .wrPin d
  else if a = 0x8#4 then .wrEdge d
  else if a = 0xA#4 then .wrUnmappedA d
  else if a = 0xC#4 then .wrUnmappedC d
  else .wrUnmappedE d

/-- The arms of R49 for CLS = 0b10: RSV = op[5:3] and op[2] must be 0, and op[1:0] selects the event. -/
def decodeEvent (op : Byte) : Except DecodeError Instr :=
  if op.extractLsb' 3 3 ≠ 0b000#3 ∨ op.getLsbD 2 = true then .error .reservedEvent
  else if op.extractLsb' 0 2 = 0b00#2 then .ok .tick
  else if op.extractLsb' 0 2 = 0b01#2 then .ok .inLow
  else if op.extractLsb' 0 2 = 0b10#2 then .ok .inHigh
  else .ok .reset

/-- A step without an operand, whatever its class: it must be delivered with no data (R47, R52). -/
def withoutData (data : Option Word) (i : Instr) : Except DecodeError Instr :=
  match data with
  | none => .ok i
  | some _ => .error .strayData

/-- The decode function of R49: the reserved tests first, then the arms of the class. -/
def decode (w : StepWords) : Except DecodeError Instr :=
  if labelClass w.label = 0b11#2 then .error .reservedClass
  else if labelClass w.label = 0b10#2 then
    match decodeEvent w.label with
    | .error e => .error e
    | .ok i => withoutData w.data i
  else if w.label.getLsbD 5 = true then .error .reservedBusBit
  else if labelClass w.label = 0b00#2 then
    withoutData w.data (decodeRead (w.label.getLsbD 4) (labelOffset w.label))
  else
    match w.data with
    | none => .error .missingData
    | some d => .ok (decodeWrite (w.label.getLsbD 4) (labelOffset w.label) d)

/-- Format BUS assembled from its fields: CLS (0b00 read, 0b01 write), RSV = 0, SZ and A (R45). -/
def busLabel (write : Bool) (wd : Width) (a : Offset) : Byte :=
  (if write then 0b01#2 else 0b00#2) ++ 0b0#1 ++ (match wd with | .byte => 0b0#1 | .word => 0b1#1) ++ a

/-- Format EVT assembled from EV, with CLS = 0b10 and RSV = 0b000 (R47). -/
def evtLabel (ev : BitVec 3) : Byte := 0b10#2 ++ 0b000#3 ++ ev

/-- The words of a bus read at offset `a`. -/
def readWords (wd : Width) (a : Offset) : StepWords := ⟨busLabel false wd a, none⟩

/-- The words of a bus write of `d` at offset `a`. -/
def writeWords (wd : Width) (a : Offset) (d : Word) : StepWords := ⟨busLabel true wd a, some d⟩

/-- The words of a well-formed operation (R45 to R47, R53). -/
def encode : Instr → StepWords
  | .rdCnt => readWords .word 0x0#4
  | .rdStat => readWords .word 0x2#4
  | .rdCtrl => readWords .word 0x4#4
  | .rdPin => readWords .word 0x6#4
  | .rdEdge => readWords .word 0x8#4
  | .rdUnmappedA => readWords .word 0xA#4
  | .rdUnmappedC => readWords .word 0xC#4
  | .rdUnmappedE => readWords .word 0xE#4
  | .rdOdd a => readWords .word a
  | .rdByte a => readWords .byte a
  | .wrCnt d => writeWords .word 0x0#4 d
  | .wrStat d => writeWords .word 0x2#4 d
  | .wrCtrl d => writeWords .word 0x4#4 d
  | .wrPin d => writeWords .word 0x6#4 d
  | .wrEdge d => writeWords .word 0x8#4 d
  | .wrUnmappedA d => writeWords .word 0xA#4 d
  | .wrUnmappedC d => writeWords .word 0xC#4 d
  | .wrUnmappedE d => writeWords .word 0xE#4 d
  | .wrOdd a d => writeWords .word a d
  | .wrByte a d => writeWords .byte a d
  | .tick => ⟨evtLabel 0b000#3, none⟩
  | .inLow => ⟨evtLabel 0b001#3, none⟩
  | .inHigh => ⟨evtLabel 0b010#3, none⟩
  | .reset => ⟨evtLabel 0b011#3, none⟩

/-- The words of the step whose bits are the low `nbits` bits of `w`: the label in bits 7:0 and, where its class
carries one, D in bits 23:8; a bit above `nbits` is 0 (log entry 22). -/
def tableWords (nbits w : Nat) : StepWords :=
  let v := w % 2 ^ nbits
  let op := BitVec.ofNat 8 v
  ⟨op, if labelCarriesData op then some (BitVec.ofNat 16 (v / 256)) else none⟩

/-- The operation the decoder reads from such bits, or none where it refuses. -/
def decodeTableWord (nbits w : Nat) : Option Instr :=
  match decode (tableWords nbits w) with
  | .ok i => some i
  | .error _ => none

end Sys2Proof
end

