-- ==== Sys2Proof/Machine/State.lean ====
section
/-! DEFINITION. The state of the model as plain data: the block's fields (spec/10_state.md R15), the FAULTS list
(R109), the response of the last step (R46), the reference client's variables (spec/45_reference_fsm.md R77), the
schedule the agents' steps are taken from (R28, R56), the parameters (R8), and the reasons a step can stop. -/

namespace Sys2Proof.Machine

/-- The cause of a BusError (R103). -/
inductive Cause where
  /-- Code 1: an 8-bit access (R104). -/
  | width
  /-- Code 2: a 16-bit access at an odd offset (R105). -/
  | align
  /-- Code 3: a 16-bit access at 0xA, 0xC or 0xE (R106). -/
  | unmapped
deriving DecidableEq, Repr

/-- The response the block gives to a host access (R46, R103). -/
inductive Response where
  /-- OK(data) of a read. -/
  | okData (data : Word)
  /-- OK of a write. -/
  | ok
  /-- ERR(cause) of an access the block does not admit. -/
  | err (cause : Cause)
deriving DecidableEq, Repr

/-- A record of `s.FAULTS` (R109). -/
inductive FaultRecord where
  /-- BusError(label, A, D or none, cause) (R103). -/
  | busError (label : Byte) (a : Offset) (d : Option Word) (cause : Cause)
  /-- ElapsedUnderflow(start, endv) (R88, R110). -/
  | elapsedUnderflow (start endv : Word)
deriving DecidableEq, Repr

/-- The four wait contexts of the reference client (R79). -/
inductive Ctx where
  /-- Step 1, wait for low. -/
  | sl
  /-- Step 2, wait for high. -/
  | sh
  /-- Step 4, wait for low. -/
  | ml
  /-- Step 4, wait for high. -/
  | mh
deriving DecidableEq, Repr

/-- The client's position, the part a pc plays (R14, R79, R80). -/
inductive Phase where
  /-- No call of `measure` has been made (log entry 7). -/
  | idle
  | clr1
  | clr2
  | clr3
  | snapStart
  | snapEnd
  /-- c.PINRD. -/
  | pinRd (c : Ctx)
  /-- c.OVFRD. -/
  | ovfRd (c : Ctx)
  /-- c.CLR. -/
  | clr (c : Ctx)
  /-- DONE; its result is the client's `result` (R79, R102). -/
  | done
  /-- The run ended in ElapsedUnderflow and has no result (R88; log entry 7). -/
  | faulted
deriving DecidableEq, Repr

/-- The variables of the reference client (R77): host state, beside the block's. -/
structure Client where
  phase : Phase
  /-- `N`, the argument of `measure`. -/
  n : Word
  /-- Periods completed in step 4. -/
  k : Word
  /-- DOC's overflowsObserved. -/
  ov : Nat
  /-- The start snapshot. -/
  start : Word
  /-- The end snapshot. -/
  endv : Word
  /-- The value returned. -/
  result : Long
deriving DecidableEq, Repr

/-- The parameters of R8 that rules of the model use and that may be chosen. No step changes them (log entry 12). -/
structure Params where
  /-- SYNC_BOUND. -/
  syncBound : Nat
  /-- MEAS_BOUND. -/
  measBound : Nat
  /-- TICKS_BETWEEN_MIN (R29). -/
  ticksMin : Nat
  /-- TICKS_BETWEEN_MAX, none for unbounded (R29). -/
  ticksMax : Option Nat
deriving DecidableEq, Repr

/-- One turn of the schedule: which agent moves, and what it does (R28, R56; log entry 1). -/
inductive Turn where
  /-- The agent that owns the label takes the step it names. -/
  | issue (w : StepWords)
  /-- The host calls `measure(n)` and takes the client's first host step, CLR1 (R78, R79; log entry 8). -/
  | measure (n : Word)
  /-- The host, running the reference client, takes the step of the client's phase (R79, R80). -/
  | client
deriving DecidableEq, Repr

/-- The whole state. -/
structure State where
  /-- `s.COUNT`, 16 bits unsigned (R15, R16). -/
  count : Word
  /-- `s.OVF`, the sticky overflow flag (R15, R17). -/
  ovf : Bool
  /-- `s.RUN` (R15, R18). -/
  run : Bool
  /-- `s.IN`, the level on the digital input (R15, R19). -/
  input : Bool
  /-- `s.PREV`, the edge detector's previous sample (R15, R20). -/
  prev : Bool
  /-- `s.VALID`: PREV holds a sample taken since reset (R15, R20). -/
  valid : Bool
  /-- `s.FAULTS`, oldest record first (R15, R109). -/
  faults : List FaultRecord
  /-- The response of the step just taken, none after an event (R46; the model's own field, log entry 2). -/
  resp : Option Response
  /-- How many resets have drawn their values, power-on included (the model's own field, log entry 3). -/
  draws : Nat
  /-- The reference client (R77). -/
  client : Client
  /-- The turns still to be taken, next one first (the model's own field, log entry 1). -/
  schedule : List Turn
  /-- TICK steps since the last host step, none before the first (the model's own field for R29, log entry 11). -/
  sinceHost : Option Nat
  /-- The parameters (R8). -/
  params : Params
deriving DecidableEq, Repr

/-- Why the model stops. No access and no event of the block ends in one: BusError and ElapsedUnderflow are recorded
in `s.FAULTS` and the run goes on (R103, R109; log entry 5). -/
inductive Fault where
  /-- Raised by `step` alone, when no turn is left in the schedule: nothing says which agent moves next. Safe: the
  hardware goes on and the model claims nothing (log entry 1). -/
  | scheduleExhausted
deriving DecidableEq, Repr

/-- What the model gives no meaning to. Each refusal but the first is one the spec asks for, or a turn that it does
not admit; each is safe, since no claim holds of a run that contains one (R10, R108). -/
inductive Refusal where
  /-- Raised by `exec`'s arm of an instruction that has no meaning yet. None is left. Safe. -/
  | notModelled (mnemonic : String)
  /-- Raised by a turn whose words name no operation: the reserved labels (R50, R108), or D missing or stray
  (log entry 15). Safe. -/
  | undecoded (why : DecodeError)
  /-- Raised by a bus label, or a call of `measure`, while the one host is inside `measure`: only a second host could
  issue it (R100, R118, U17; log entry 9). Safe. -/
  | hostBusy
  /-- Raised by a client turn in a phase that issues nothing: the host has no step to take (R28, R79; log entry 10).
  Safe. -/
  | clientNotEnabled
  /-- Raised by a call of `measure(0)` (R78, R110, U18). Safe. -/
  | measureZero
  /-- Raised by the client when MEAS_BOUND is above 65535 (R87, U11; log entry 13). Safe. -/
  | measBoundTooLarge
  /-- Raised by a host step that is not TICKS_BETWEEN_MIN to TICKS_BETWEEN_MAX TICK steps after the last one (R29;
  log entry 11). Safe. -/
  | gapNotAdmitted
deriving DecidableEq, Repr

/-- The client before any call. R77 gives its variables no value there: that `phase` is `idle` and that N, `k`, `ov`,
`start`, `endv` and `result` are 0, N so outside its range 1 to 65535, is the model's choice (log entries 6 and 7). -/
def Client.initial : Client :=
  { phase := .idle, n := 0#16, k := 0#16, ov := 0, start := 0#16, endv := 0#16, result := 0#32 }

/-- The defaults of R8. -/
def Params.default : Params :=
  { syncBound := Config.syncBoundDefault, measBound := Config.measBoundDefault, ticksMin := 0, ticksMax := none }

/-- A power-on state (R123): the state after RESET (R121) with the given draws for COUNT, OVF, PREV and IN, no fault
recorded, no response given, the client not yet called and nothing scheduled. -/
def State.powerOn (c : Word) (o p lvl : Bool) : State :=
  { count := c, ovf := o, run := false, input := lvl, prev := p, valid := false, faults := [], resp := none,
    draws := 1, client := Client.initial, schedule := [], sinceHost := none, params := Params.default }

/-- The machine right after power-on, its draws being the free values of Config (R122, R123; log entries 3 and 4). -/
def State.reset : State :=
  State.powerOn (Config.countReset 0) (Config.ovfReset 0) (Config.prevReset 0) Config.inputAtPowerOn

end Sys2Proof.Machine
end

