-- ==== Sys2Proof/Machine/Operands.lean ====
section
/-! DEFINITION. Operand assembly and read data (spec/30_encoding.md R48, R51): the register offsets, what the registers
see of D, and the zero-extended values that reads return. -/

namespace Sys2Proof.Machine

/-- `zext_16` of a one-bit field (R9, R51). -/
def zext16 (b : Bool) : Word := 0#15 ++ BitVec.ofBool b

/-- Bit 0 of a 16-bit bus value: D[0] of a write, or the flag or level of a read (R62, R64, R80). -/
def bit0 (d : Word) : Bool := d.getLsbD 0

/-- The byte offset of a register in the window (R38, R48). -/
def regOffset : Reg → Offset
  | .cnt => 0x0#4
  | .stat => 0x2#4
  | .ctrl => 0x4#4
  | .pin => 0x6#4
  | .edge => 0x8#4

/-- EDGE's read data: thirteen zero bits, FALL, RISE, LEVEL (R25, R51, R71). -/
def edgeData (fall rise cur : Bool) : Word :=
  0#13 ++ BitVec.ofBool fall ++ BitVec.ofBool rise ++ BitVec.ofBool cur

end Sys2Proof.Machine
end

