-- ==== Sys2Proof/Machine/Flags.lean ====
section
/-! DEFINITION. The one stored flag and the computed condition bits (spec/10_state.md R27): OVF after a tick and after
its write-one-to-clear, RUN after its write-one-to-set, RISE and FALL of an EDGE read. -/

namespace Sys2Proof.Machine

/-- A tick taken at this count wraps (R12, R57). -/
def wrapsAt (c : Word) : Bool := c == 0xFFFF#16

/-- OVF after a counting tick at `c`: set on a wrap whatever its old value, else as before (R57). -/
def ovfAfterTick (c : Word) (ovf : Bool) : Bool := if wrapsAt c then true else ovf

/-- OVF after WR.W STAT of `d`: cleared by D[0] = 1, else as before (R62). -/
def ovfAfterWrite (d : Word) (ovf : Bool) : Bool := if bit0 d then false else ovf

/-- RUN after WR.W CTRL of `d`: set by D[0] = 1, else as before (R64). -/
def runAfterWrite (d : Word) (run : Bool) : Bool := if bit0 d then true else run

/-- RISE of an EDGE read that samples `cur` (R25, R71). -/
def riseOf (valid prev cur : Bool) : Bool := valid && !prev && cur

/-- FALL of an EDGE read that samples `cur` (R25, R71). -/
def fallOf (valid prev cur : Bool) : Bool := valid && prev && !cur

/-- The code a BusError's cause is reported as (R103). -/
def Cause.code : Cause → Nat
  | .width => 1
  | .align => 2
  | .unmapped => 3

end Sys2Proof.Machine
end

