-- ==== Sys2Proof/Machine/Ops.lean ====
section
/-! DEFINITION. The named operations the meanings are written with: the state's updates, register reads, answering an
access, and the one error outcome of the block, BusError (spec/60_exceptions.md R103). The block has no trap entry and
no trap return (R113, R114), so BusError's response and record are all there is to taking an exception, and nothing
returns from it. -/

namespace Sys2Proof.Machine

/-- The response of the step just taken becomes `r`. -/
def State.respond (r : Option Response) (s : State) : State := { s with resp := r }

/-- `fault F`: a record joins the end of FAULTS (R10, R109). -/
def State.recordFault (f : FaultRecord) (s : State) : State := { s with faults := s.faults ++ [f] }

/-- `s.COUNT <- c`. -/
def State.setCount (c : Word) (s : State) : State := { s with count := c }

/-- `s.OVF <- b`. -/
def State.setOvf (b : Bool) (s : State) : State := { s with ovf := b }

/-- `s.RUN <- b`. -/
def State.setRun (b : Bool) (s : State) : State := { s with run := b }

/-- `s.IN <- b`. -/
def State.setInput (b : Bool) (s : State) : State := { s with input := b }

/-- `s.PREV <- s.IN; s.VALID <- 1`, the memory of an EDGE read (R71). -/
def State.sampleInput (s : State) : State := { s with prev := s.input, valid := true }

/-- RESET's pseudocode (R121): COUNT, OVF and PREV take fresh draws, RUN and VALID become 0, and IN and FAULTS stay. -/
def State.applyReset (s : State) : State :=
  { s with
    count := Config.countReset s.draws
    ovf := Config.ovfReset s.draws
    run := false
    prev := Config.prevReset s.draws
    valid := false
    draws := s.draws + 1 }

/-- The client's variables become `c`. -/
def State.setClient (c : Client) (s : State) : State := { s with client := c }

/-- The turns still to be taken become `ts`. -/
def State.setSchedule (ts : List Turn) (s : State) : State := { s with schedule := ts }

/-- The count of TICK steps since the last host step becomes `g`. -/
def State.setSinceHost (g : Option Nat) (s : State) : State := { s with sinceHost := g }

/-- What a read of a register returns in this state (R21 to R25): reserved bits read 0. -/
def regRead (r : Reg) (s : State) : Word :=
  match r with
  | .cnt => s.count
  | .stat => zext16 s.ovf
  | .ctrl => zext16 s.run
  | .pin => zext16 s.input
  | .edge => edgeData (fallOf s.valid s.prev s.input) (riseOf s.valid s.prev s.input) s.input

/-- `return OK(v)`: a read answers with data, and the state is otherwise as it is. -/
def answerRead (v : Word) (s : State) : Host.Outcome State Fault Refusal := .next (s.respond (some (.okData v)))

/-- `return OK`: a write is answered. -/
def answerWrite (s : State) : Host.Outcome State Fault Refusal := .next (s.respond (some .ok))

/-- An event ends: it has no response. -/
def endEvent (s : State) : Host.Outcome State Fault Refusal := .next (s.respond none)

/-- `raise BusError(cause)` for the access delivered as `w` (R103): no field of the block changes, the access is
answered with ERR(cause), and the record BusError(label, A, D or none, cause) joins FAULTS. -/
def raiseBusError (w : StepWords) (cause : Cause) (s : State) : Host.Outcome State Fault Refusal :=
  .next ((s.recordFault (.busError w.label (labelOffset w.label) w.data cause)).respond (some (.err cause)))

end Sys2Proof.Machine
end

