-- ==== Sys2Proof/Machine/Client.lean ====
section
/-! DEFINITION. The reference client, the PeriodMeter measurement FSM (spec/45_reference_fsm.md): which operation each
phase issues, and what the client does with the answer. -/

namespace Sys2Proof.Machine

/-- CLROVF = WR.W STAT, #0x0001 (R54, R76). -/
def clrOvf : Instr := .wrStat 0x0001#16

/-- The bus operation a phase issues, one of R76's four; none where it issues nothing (R79, R80). -/
def Phase.operation : Phase → Option Instr
  | .idle => none
  | .clr1 => some clrOvf
  | .clr2 => some clrOvf
  | .clr3 => some clrOvf
  | .snapStart => some .rdCnt
  | .snapEnd => some .rdCnt
  | .pinRd _ => some .rdPin
  | .ovfRd _ => some .rdStat
  | .clr _ => some clrOvf
  | .done => none
  | .faulted => none

/-- The client is inside `measure`: it has a step to issue. -/
def Phase.active (p : Phase) : Bool := p.operation.isSome

/-- The level a wait context waits for (R79). -/
def Ctx.target : Ctx → Bool
  | .sl => false
  | .sh => true
  | .ml => false
  | .mh => true

/-- The overflow bound of a wait context (R79, R90). -/
def Ctx.bound (p : Params) : Ctx → Nat
  | .sl => p.syncBound
  | .sh => p.syncBound
  | .ml => p.measBound
  | .mh => p.measBound

/-- Entry of `measure(n)`: the client stands at CLR1 (R78, R79). -/
def Client.enter (n : Word) (c : Client) : Client := { c with phase := .clr1, n := n }

/-- The exit of a wait context, its pin test having succeeded (R79). -/
def Client.exitWait (x : Ctx) (c : Client) : Client :=
  match x with
  | .sl => { c with phase := .clr2 }
  | .sh => { c with phase := .clr3 }
  | .ml => { c with phase := .pinRd .mh }
  | .mh => { c with k := c.k + 1#16, phase := if c.k + 1#16 < c.n then .pinRd .ml else .snapEnd }

/-- Step 7: `ov * 65536 + ((endv - start) mod 65536)` as a 32-bit value (R87). -/
def elapsed (ov : Nat) (start endv : Word) : Long := BitVec.ofNat 32 (ov * 65536 + (endv - start).toNat)

/-- Steps 6 and 7, `endv` having been read: the correction, its underflow, and the result (R86 to R88). -/
def Client.finish (c : Client) : Client :=
  if c.endv < c.start then
    match c.ov with
    | 0 => { c with phase := .faulted }
    | m + 1 => { c with ov := m, result := elapsed m c.start c.endv, phase := .done }
  else { c with result := elapsed c.ov c.start c.endv, phase := .done }

/-- The flag was cleared in a wait: count it, and abort with result 0 past the bound (R80, R89, R90). -/
def Client.countOverflow (p : Params) (x : Ctx) (c : Client) : Client :=
  if x.bound p < c.ov + 1 then { c with ov := c.ov + 1, result := 0#32, phase := .done }
  else { c with ov := c.ov + 1, phase := .pinRd x }

/-- The client's move once the operation of its phase has answered with `data` (the tables of R79 and R80). -/
def Client.advance (p : Params) (data : Word) (c : Client) : Client :=
  match c.phase with
  | .idle => c
  | .clr1 => { c with ov := 0, phase := .pinRd .sl }
  | .clr2 => { c with ov := 0, phase := .pinRd .sh }
  | .clr3 => { c with ov := 0, phase := .snapStart }
  | .snapStart => { c with start := data, k := 0#16, phase := .pinRd .ml }
  | .snapEnd => Client.finish { c with endv := data }
  | .pinRd x => if bit0 data = x.target then c.exitWait x else { c with phase := .ovfRd x }
  | .ovfRd x => { c with phase := if bit0 data then .clr x else .pinRd x }
  | .clr x => c.countOverflow p x
  | .done => c
  | .faulted => c

/-- What that move records in FAULTS: ElapsedUnderflow when SNAP_END reads a count below `start` with `ov = 0`
(R88, R110). -/
def Client.underflow (data : Word) (c : Client) : List FaultRecord :=
  match c.phase with
  | .snapEnd => if data < c.start ∧ c.ov = 0 then [.elapsedUnderflow c.start data] else []
  | _ => []

/-- The data a response carries to the client; the answers to its writes carry none. -/
def Response.dataOf : Option Response → Word
  | some (.okData v) => v
  | some .ok => 0#16
  | some (.err _) => 0#16
  | none => 0#16

/-- The client moves on the response just given. -/
def State.advanceClient (s : State) : State :=
  { s with
    client := s.client.advance s.params (Response.dataOf s.resp)
    faults := s.faults ++ s.client.underflow (Response.dataOf s.resp) }

end Sys2Proof.Machine
end

