-- ==== Sys2Proof/Machine/BusErrors.lean ====
section
/-! DEFINITION. The accesses the block does not admit (spec/60_exceptions.md R104 to R106): each answers ERR and is
recorded. -/

namespace Sys2Proof.Machine

/-- RD.W 0xA: UNMAPPED (R106). -/
def execRdUnmappedA (s : State) : Host.Outcome State Fault Refusal := raiseBusError (encode .rdUnmappedA) .unmapped s

/-- RD.W 0xC: UNMAPPED (R106). -/
def execRdUnmappedC (s : State) : Host.Outcome State Fault Refusal := raiseBusError (encode .rdUnmappedC) .unmapped s

/-- RD.W 0xE: UNMAPPED (R106). -/
def execRdUnmappedE (s : State) : Host.Outcome State Fault Refusal := raiseBusError (encode .rdUnmappedE) .unmapped s

/-- RD.W at an odd offset: ALIGN (R105). -/
def execRdOdd (a : Offset) (s : State) : Host.Outcome State Fault Refusal := raiseBusError (encode (.rdOdd a)) .align s

/-- RD.B at any offset: WIDTH (R104). -/
def execRdByte (a : Offset) (s : State) : Host.Outcome State Fault Refusal :=
  raiseBusError (encode (.rdByte a)) .width s

/-- WR.W 0xA: UNMAPPED (R106). -/
def execWrUnmappedA (d : Word) (s : State) : Host.Outcome State Fault Refusal :=
  raiseBusError (encode (.wrUnmappedA d)) .unmapped s

/-- WR.W 0xC: UNMAPPED (R106). -/
def execWrUnmappedC (d : Word) (s : State) : Host.Outcome State Fault Refusal :=
  raiseBusError (encode (.wrUnmappedC d)) .unmapped s

/-- WR.W 0xE: UNMAPPED (R106). -/
def execWrUnmappedE (d : Word) (s : State) : Host.Outcome State Fault Refusal :=
  raiseBusError (encode (.wrUnmappedE d)) .unmapped s

/-- WR.W at an odd offset: ALIGN (R105). -/
def execWrOdd (a : Offset) (d : Word) (s : State) : Host.Outcome State Fault Refusal :=
  raiseBusError (encode (.wrOdd a d)) .align s

/-- WR.B at any offset: WIDTH (R104). -/
def execWrByte (a : Offset) (d : Word) (s : State) : Host.Outcome State Fault Refusal :=
  raiseBusError (encode (.wrByte a d)) .width s

end Sys2Proof.Machine
end

