-- ==== Sys2Proof/Machine/Counter.lean ====
section
/-! DEFINITION. The counter, the overflow flag and run control (spec/40_counter.md): TICK and the accesses to CNT, STAT
and CTRL. -/

namespace Sys2Proof.Machine

/-- TICK (R57). -/
def execTick (s : State) : Host.Outcome State Fault Refusal :=
  if s.run then endEvent ((s.setCount (s.count + 1#16)).setOvf (ovfAfterTick s.count s.ovf)) else endEvent s

/-- RD.W CNT (R59). -/
def execRdCnt (s : State) : Host.Outcome State Fault Refusal := answerRead (regRead .cnt s) s

/-- WR.W CNT (R60): ignored. -/
def execWrCnt (_d : Word) (s : State) : Host.Outcome State Fault Refusal := answerWrite s

/-- RD.W STAT (R61): a read does not clear OVF. -/
def execRdStat (s : State) : Host.Outcome State Fault Refusal := answerRead (regRead .stat s) s

/-- WR.W STAT (R62): write-one-to-clear of OVF. -/
def execWrStat (d : Word) (s : State) : Host.Outcome State Fault Refusal :=
  answerWrite (s.setOvf (ovfAfterWrite d s.ovf))

/-- RD.W CTRL (R63). -/
def execRdCtrl (s : State) : Host.Outcome State Fault Refusal := answerRead (regRead .ctrl s) s

/-- WR.W CTRL (R64): write-one-to-set of RUN. -/
def execWrCtrl (d : Word) (s : State) : Host.Outcome State Fault Refusal :=
  answerWrite (s.setRun (runAfterWrite d s.run))

end Sys2Proof.Machine
end

