-- ==== Sys2Proof/Machine/Input.lean ====
section
/-! DEFINITION. The digital input and the edge detector (spec/41_input.md): IN_LOW, IN_HIGH and the accesses to PIN and
EDGE. -/

namespace Sys2Proof.Machine

/-- IN_LOW (R67): the detector does not sample. -/
def execInLow (s : State) : Host.Outcome State Fault Refusal := endEvent (s.setInput false)

/-- IN_HIGH (R68). -/
def execInHigh (s : State) : Host.Outcome State Fault Refusal := endEvent (s.setInput true)

/-- RD.W PIN (R69): no side effect. -/
def execRdPin (s : State) : Host.Outcome State Fault Refusal := answerRead (regRead .pin s) s

/-- WR.W PIN (R70): ignored. -/
def execWrPin (_d : Word) (s : State) : Host.Outcome State Fault Refusal := answerWrite s

/-- RD.W EDGE (R71): the data compares the sample with the previous one, then the sample is kept. -/
def execRdEdge (s : State) : Host.Outcome State Fault Refusal := answerRead (regRead .edge s) s.sampleInput

/-- WR.W EDGE (R72): ignored. -/
def execWrEdge (_d : Word) (s : State) : Host.Outcome State Fault Refusal := answerWrite s

end Sys2Proof.Machine
end

