-- ==== Sys2Proof/Machine/Reset.lean ====
section
/-! DEFINITION. RESET, the platform's reset of the block (spec/70_reset_and_hazards.md R121). -/

namespace Sys2Proof.Machine

/-- RESET (R121): it may be taken at any step, and leaves the client where it is (R100). -/
def execReset (s : State) : Host.Outcome State Fault Refusal := endEvent s.applyReset

end Sys2Proof.Machine
end

