-- ==== Sys2Proof/Machine/Dispatch.lean ====
section
/-! DEFINITION. exec: one arm per constructor of Instr, each one direct call of its meaning. -/

namespace Sys2Proof.Machine

def exec (i : Instr) (s : State) : Host.Outcome State Fault Refusal :=
  match i with
  | .rdCnt => Sys2Proof.Machine.execRdCnt s
  | .rdStat => Sys2Proof.Machine.execRdStat s
  | .rdCtrl => Sys2Proof.Machine.execRdCtrl s
  | .rdPin => Sys2Proof.Machine.execRdPin s
  | .rdEdge => Sys2Proof.Machine.execRdEdge s
  | .rdUnmappedA => Sys2Proof.Machine.execRdUnmappedA s
  | .rdUnmappedC => Sys2Proof.Machine.execRdUnmappedC s
  | .rdUnmappedE => Sys2Proof.Machine.execRdUnmappedE s
  | .rdOdd a => Sys2Proof.Machine.execRdOdd a s
  | .rdByte a => Sys2Proof.Machine.execRdByte a s
  | .wrCnt d => Sys2Proof.Machine.execWrCnt d s
  | .wrStat d => Sys2Proof.Machine.execWrStat d s
  | .wrCtrl d => Sys2Proof.Machine.execWrCtrl d s
  | .wrPin d => Sys2Proof.Machine.execWrPin d s
  | .wrEdge d => Sys2Proof.Machine.execWrEdge d s
  | .wrUnmappedA d => Sys2Proof.Machine.execWrUnmappedA d s
  | .wrUnmappedC d => Sys2Proof.Machine.execWrUnmappedC d s
  | .wrUnmappedE d => Sys2Proof.Machine.execWrUnmappedE d s
  | .wrOdd a d => Sys2Proof.Machine.execWrOdd a d s
  | .wrByte a d => Sys2Proof.Machine.execWrByte a d s
  | .tick => Sys2Proof.Machine.execTick s
  | .inLow => Sys2Proof.Machine.execInLow s
  | .inHigh => Sys2Proof.Machine.execInHigh s
  | .reset => Sys2Proof.Machine.execReset s

end Sys2Proof.Machine
end

