-- ==== Sys2Proof/Machine/Turns.lean ====
section
/-! DEFINITION. How a turn of the schedule is taken (spec/20_memory.md R28, R29): who issues each operation, when a host
step is admitted, and the three kinds of turn. -/

namespace Sys2Proof.Machine

/-- The agent that takes an operation (R28, R47). -/
def agentOf : Instr → Agent
  | .rdCnt => .host
  | .rdStat => .host
  | .rdCtrl => .host
  | .rdPin => .host
  | .rdEdge => .host
  | .rdUnmappedA => .host
  | .rdUnmappedC => .host
  | .rdUnmappedE => .host
  | .rdOdd _ => .host
  | .rdByte _ => .host
  | .wrCnt _ => .host
  | .wrStat _ => .host
  | .wrCtrl _ => .host
  | .wrPin _ => .host
  | .wrEdge _ => .host
  | .wrUnmappedA _ => .host
  | .wrUnmappedC _ => .host
  | .wrUnmappedE _ => .host
  | .wrOdd _ _ => .host
  | .wrByte _ _ => .host
  | .tick => .counter
  | .inLow => .env
  | .inHigh => .env
  | .reset => .platform

/-- The TICK steps since the last host step lie between TICKS_BETWEEN_MIN and TICKS_BETWEEN_MAX (R29). -/
def gapAdmits (p : Params) (gap : Option Nat) : Bool :=
  match gap with
  | none => true
  | some g => decide (p.ticksMin ≤ g) && (match p.ticksMax with | none => true | some m => decide (g ≤ m))

/-- The TICK steps since the last host step, once `i` has been taken (R29). -/
def gapAfter (i : Instr) (gap : Option Nat) : Option Nat :=
  match agentOf i with
  | .host => some 0
  | .counter => gap.map (· + 1)
  | .env => gap
  | .platform => gap

/-- One operation is taken, and the TICK steps between host steps are counted. -/
def runInstr (i : Instr) (s : State) : Host.Outcome State Fault Refusal :=
  match exec i s with
  | .next t => .next (t.setSinceHost (gapAfter i t.sinceHost))
  | .fault r => .fault r
  | .refused r => .refused r

/-- A label is issued by the agent that owns it. An event is always enabled; a bus label is the one host's, which is
not inside `measure` (R28, R100, R118). -/
def issueTurn (w : StepWords) (s : State) : Host.Outcome State Fault Refusal :=
  match decode w with
  | .error e => .refused (.undecoded e)
  | .ok i =>
    if agentOf i = .host then
      if s.client.phase.active then .refused .hostBusy
      else if gapAdmits s.params s.sinceHost then runInstr i s
      else .refused .gapNotAdmitted
    else runInstr i s

/-- The host takes the step of the client's phase (R79, R80). -/
def clientTurn (s : State) : Host.Outcome State Fault Refusal :=
  match s.client.phase.operation with
  | none => .refused .clientNotEnabled
  | some i =>
    if Config.measBoundMax < s.params.measBound then .refused .measBoundTooLarge
    else if gapAdmits s.params s.sinceHost then
      match runInstr i s with
      | .next t => .next t.advanceClient
      | .fault r => .fault r
      | .refused r => .refused r
    else .refused .gapNotAdmitted

/-- The host calls `measure(n)` and takes its first step (R78, R79, R110). -/
def measureTurn (n : Word) (s : State) : Host.Outcome State Fault Refusal :=
  if s.client.phase.active then .refused .hostBusy
  else if n = 0#16 then .refused .measureZero
  else clientTurn (s.setClient (s.client.enter n))

/-- A turn is taken. -/
def takeTurn (t : Turn) (s : State) : Host.Outcome State Fault Refusal :=
  match t with
  | .issue w => issueTurn w s
  | .measure n => measureTurn n s
  | .client => clientTurn s

/-- The next turn leaves the schedule and is taken. -/
def takeNextTurn (s : State) : Host.Outcome State Fault Refusal :=
  match s.schedule with
  | [] => .fault .scheduleExhausted
  | t :: rest => takeTurn t (s.setSchedule rest)

/-- The host is free to issue a label: it is not inside `measure`, and no host step bounds the next one's gap. -/
def State.releaseHost (s : State) : State :=
  { s with
    client := if s.client.phase.active then { s.client with phase := .idle } else s.client
    sinceHost := none }

/-- The step delivered as `w` becomes the next turn, ahead of the schedule; for a bus label the host is free to issue
it (log entry 1). -/
def State.scheduleFirst (w : StepWords) (s : State) : State :=
  if w.label.getLsbD 7 then s.setSchedule (.issue w :: s.schedule)
  else s.releaseHost.setSchedule (.issue w :: s.schedule)

end Sys2Proof.Machine
end

