-- ==== Sys2Proof/Machine/Step.lean ====
section
/-! DEFINITION. One step of the model: the next turn of the schedule is taken (spec/00_scope.md R11, spec/20_memory.md
R28). -/

namespace Sys2Proof.Machine

/-- One step. -/
def step (s : State) : Host.Outcome State Fault Refusal := takeNextTurn s

/-- The operation whose bits are the low `nbits` bits of `w` becomes the next turn. -/
def State.withFetchWord (s : State) (nbits w : Nat) : State := s.scheduleFirst (tableWords nbits w)

end Sys2Proof.Machine
end

