-- ==== Sys2Proof/Machine/Assembler.lean ====
section
/-! DEFINITION. The assembler syntax as a tree and the pseudo-instructions (spec/30_encoding.md R51, R53, R54). -/

namespace Sys2Proof.Machine

/-- The offset of an access, by register name or as a number (R48, R53). -/
inductive Target where
  | reg (r : Reg)
  | num (a : Nat)
deriving DecidableEq, Repr

/-- A line of R53's table; literals are as written, before any width is checked. -/
inductive Source where
  | rdW (t : Target)
  | wrW (t : Target) (imm : Nat)
  | rdB (a : Nat)
  | wrB (a : Nat) (imm : Nat)
  | tick
  | inLow
  | inHigh
  | reset
deriving DecidableEq, Repr

/-- The pseudo-instructions of R54. -/
inductive Pseudo where
  | clrovf
  | start
  | snap
  | pollovf
  | level
  | sample
  | ticks (n : Nat)
deriving DecidableEq, Repr

/-- A number that fits `bits` bits, zero-extended or cut to no other width; a wider literal is an assembler error
(R51). -/
def literal (bits v : Nat) : Option Nat := if v < 2 ^ bits then some v else none

/-- The offset a target names, none for a number above 0xF. -/
def Target.offset : Target → Option Offset
  | .reg r => some (regOffset r)
  | .num a => (literal 4 a).map (BitVec.ofNat 4)

/-- The words of a line, none for an assembler error (R51, R53). -/
def assemble : Source → Option StepWords
  | .rdW t => t.offset.map (readWords .word)
  | .wrW t imm =>
    match t.offset, literal 16 imm with
    | some a, some v => some (writeWords .word a (BitVec.ofNat 16 v))
    | _, _ => none
  | .rdB a => (literal 4 a).map fun o => readWords .byte (BitVec.ofNat 4 o)
  | .wrB a imm =>
    match literal 4 a, literal 8 imm with
    | some o, some v => some (writeWords .byte (BitVec.ofNat 4 o) (BitVec.ofNat 16 v))
    | _, _ => none
  | .tick => some (encode .tick)
  | .inLow => some (encode .inLow)
  | .inHigh => some (encode .inHigh)
  | .reset => some (encode .reset)

/-- The expansion of a pseudo-instruction (R54); `TICK*0` is no step at all. -/
def expand : Pseudo → List Source
  | .clrovf => [.wrW (.reg .stat) 0x0001]
  | .start => [.wrW (.reg .ctrl) 0x0001]
  | .snap => [.rdW (.reg .cnt)]
  | .pollovf => [.rdW (.reg .stat)]
  | .level => [.rdW (.reg .pin)]
  | .sample => [.rdW (.reg .edge)]
  | .ticks n => List.replicate n .tick

end Sys2Proof.Machine
end

