-- ==== Sys2Proof/Machine/AssemblerText.lean ====
section
/-! DEFINITION. Reading a line of assembler text (spec/30_encoding.md R53, R54, with R9's literals) as the steps it stands
for. A line is a list of characters. Blanks, the case of letters and digits, and where `_` stands are log entry 23. -/

namespace Sys2Proof.Machine

/-- The part of a line that is a step: what stands before a comment, or before the `->` of a listing (R53). -/
def stepPart : List Char → List Char
  | [] => []
  | ';' :: _ => []
  | '-' :: '>' :: _ => []
  | c :: cs => c :: stepPart cs

/-- A digit of R9's literals. R9 does not say whether a hexadecimal digit may be a lower-case letter: that `a` to `f`
may stand beside `A` to `F` is the model's choice (log entry 23). -/
def digitValue (c : Char) : Option Nat :=
  let n := c.toNat
  if 48 ≤ n ∧ n ≤ 57 then some (n - 48)
  else if 65 ≤ n ∧ n ≤ 70 then some (n - 55)
  else if 97 ≤ n ∧ n ≤ 102 then some (n - 87)
  else none

/-- The digits of a number in base `b`, on from the value `acc` of those already read. -/
def readDigits (b : Nat) : Nat → List Char → Option Nat
  | acc, [] => some acc
  | acc, c :: cs =>
    match digitValue c with
    | some d => if d < b then readDigits b (acc * b + d) cs else none
    | none => none

/-- A number in base `b` of at least one digit. -/
def readNumber (b : Nat) (cs : List Char) : Option Nat := if cs = [] then none else readDigits b 0 cs

/-- `0x...` (R9). -/
def readHex : List Char → Option Nat
  | '0' :: 'x' :: cs => readNumber 16 cs
  | _ => none

/-- A literal: `0x...`, `0b...` with `_` as a separator, or decimal (R9). R9 does not say where `_` may stand in a `0b`
literal: that it may stand anywhere after `0b`, first, last or doubled, and is dropped, is the model's choice, as is the
decimal form (log entry 23). -/
def readLiteral : List Char → Option Nat
  | '0' :: 'x' :: cs => readNumber 16 cs
  | '0' :: 'b' :: cs => readNumber 2 (cs.filter (· ≠ '_'))
  | cs => readNumber 10 cs

/-- An immediate `#<imm>` (R53). -/
def readImmediate : List Char → Option Nat
  | '#' :: cs => readLiteral cs
  | _ => none

/-- A register name, or `0x<A>` (R48, R53). -/
def readTarget (cs : List Char) : Option Target :=
  if cs = ['C', 'N', 'T'] then some (.reg .cnt)
  else if cs = ['S', 'T', 'A', 'T'] then some (.reg .stat)
  else if cs = ['C', 'T', 'R', 'L'] then some (.reg .ctrl)
  else if cs = ['P', 'I', 'N'] then some (.reg .pin)
  else if cs = ['E', 'D', 'G', 'E'] then some (.reg .edge)
  else (readHex cs).map .num

/-- The characters before the first `c`, and those after it where there is one. -/
def splitAt (c : Char) : List Char → List Char × Option (List Char)
  | [] => ([], none)
  | x :: xs => if x = c then ([], some xs) else (x :: (splitAt c xs).1, (splitAt c xs).2)

/-- `CLROVF` to `SAMPLE` and `TICK*<n>` (R54). -/
def readPseudo (word : List Char) : Option Pseudo :=
  if word = ['C', 'L', 'R', 'O', 'V', 'F'] then some .clrovf
  else if word = ['S', 'T', 'A', 'R', 'T'] then some .start
  else if word = ['S', 'N', 'A', 'P'] then some .snap
  else if word = ['P', 'O', 'L', 'L', 'O', 'V', 'F'] then some .pollovf
  else if word = ['L', 'E', 'V', 'E', 'L'] then some .level
  else if word = ['S', 'A', 'M', 'P', 'L', 'E'] then some .sample
  else
    match word with
    | 'T' :: 'I' :: 'C' :: 'K' :: '*' :: ds => (readNumber 10 ds).map .ticks
    | _ => none

/-- The first word of a step and its operands, blanks taken out, as the row of R53's table it stands for. -/
def readSource (word operands : List Char) : Option Source :=
  match operands with
  | [] =>
    if word = ['T', 'I', 'C', 'K'] then some .tick
    else if word = ['I', 'N', '_', 'L', 'O', 'W'] then some .inLow
    else if word = ['I', 'N', '_', 'H', 'I', 'G', 'H'] then some .inHigh
    else if word = ['R', 'E', 'S', 'E', 'T'] then some .reset
    else none
  | _ :: _ =>
    match splitAt ',' operands with
    | (a, none) =>
      if word = ['R', 'D', '.', 'W'] then (readTarget a).map .rdW
      else if word = ['R', 'D', '.', 'B'] then (readHex a).map .rdB
      else none
    | (a, some v) =>
      match readImmediate v with
      | none => none
      | some imm =>
        if word = ['W', 'R', '.', 'W'] then (readTarget a).map fun t => .wrW t imm
        else if word = ['W', 'R', '.', 'B'] then (readHex a).map fun o => .wrB o imm
        else none

/-- The steps of a line: none at all for an empty line or one that is only a comment, and no meaning for a line of
any other form (R53, R54). -/
def readLine (line : List Char) : Option (List Source) :=
  let step := (stepPart line).dropWhile (· = ' ')
  let (word, rest) := splitAt ' ' step
  let operands := (rest.getD []).filter (· ≠ ' ')
  if step = [] then some []
  else
    match readSource word operands with
    | some s => some [s]
    | none => if operands = [] then (readPseudo word).map expand else none

/-- The words a line is issued as, none for an assembler error (R51, R53). -/
def assembleLine (line : List Char) : Option (List StepWords) :=
  match readLine line with
  | none => none
  | some ss => ss.mapM assemble

end Sys2Proof.Machine
end

