-- ==== Sys2Proof/Machine/Bus.lean ====
section
/-! DEFINITION. The block's window in the host's address space (spec/20_memory.md R31, spec/00_scope.md R10): which words
a host access at an address is delivered as. -/

namespace Sys2Proof.Machine

/-- The bus address of byte offset `a`: FRC_BASE + A (R31, R45). -/
def busAddress (a : Offset) : Nat := Config.frcBase + a.toNat

/-- The byte offset a host address reaches, none outside FRC_BASE to FRC_BASE + 15 (R31). -/
def offsetAt (addr : Nat) : Option Offset :=
  if Config.frcBase ≤ addr ∧ addr ≤ Config.frcBase + 15 then some (BitVec.ofNat 4 (addr - Config.frcBase)) else none

/-- MemRead(addr, n), `n` given as the access width: the words it reaches the block as, none outside the window, where
no rule gives it a meaning (R10, R31). -/
def memRead (addr : Nat) (wd : Width) : Option StepWords := (offsetAt addr).map (readWords wd)

/-- MemWrite(addr, n, v) (R10, R31). -/
def memWrite (addr : Nat) (wd : Width) (v : Word) : Option StepWords := (offsetAt addr).map (fun a => writeWords wd a v)

end Sys2Proof.Machine
end

