-- ==== Sys2Proof/Safety.lean ====
section
/-! DEFINITION. The terms the statements use: runs of operations and of turns, what is counted along them, when a run of
`measure` has ended and what is observed of it (spec/45_reference_fsm.md R102), and the fairness of infinite runs
(spec/20_memory.md R30). -/

namespace Sys2Proof.Safety

open Sys2Proof.Machine

/-- The operations are taken one after another; the run stops at the first that does not answer a next state. -/
def runOps : List Instr → State → Host.Outcome State Fault Refusal
  | [], s => .next s
  | i :: is, s =>
    match exec i s with
    | .next t => runOps is t
    | .fault r => .fault r
    | .refused r => .refused r

/-- The turns are taken one after another (a program, R56). -/
def runTurns : List Turn → State → Host.Outcome State Fault Refusal
  | [], s => .next s
  | t :: ts, s =>
    match takeTurn t s with
    | .next u => runTurns ts u
    | .fault r => .fault r
    | .refused r => .refused r

/-- The state after an operation, or the same state where it does not answer one. -/
def afterOp (i : Instr) (s : State) : State :=
  match exec i s with
  | .next t => t
  | .fault _ => s
  | .refused _ => s

/-- The state after a turn, or the same state where it is not taken. -/
def afterTurn (t : Turn) (s : State) : State :=
  match takeTurn t s with
  | .next u => u
  | .fault _ => s
  | .refused _ => s

/-- The operation a turn takes in this state, none where it names none. -/
def opOf (t : Turn) (s : State) : Option Instr :=
  match t with
  | .issue w =>
    match decode w with
    | .ok i => some i
    | .error _ => none
  | .measure _ => some clrOvf
  | .client => s.client.phase.operation

/-- The operations taken along a run of turns. -/
def opsOf : List Turn → State → List Instr
  | [], _ => []
  | t :: ts, s => (opOf t s).toList ++ opsOf ts (afterTurn t s)

/-- How many operations along a run meet a test of the operation and of the state it is taken in. -/
def countOps (p : Instr → State → Bool) : List Instr → State → Nat
  | [], _ => 0
  | i :: is, s => (if p i s then 1 else 0) + countOps p is (afterOp i s)

/-- The operation is a TICK taken with RUN = 1. -/
def counts (i : Instr) (s : State) : Bool := decide (i = .tick) && s.run

/-- The operation is a wrap (R12). -/
def wraps (i : Instr) (s : State) : Bool := counts i s && wrapsAt s.count

/-- The operation is an IN_HIGH that changes the level from 0 to 1. -/
def rises (i : Instr) (s : State) : Bool := decide (i = .inHigh) && !s.input

/-- The operation is an IN_LOW that changes the level from 1 to 0. -/
def falls (i : Instr) (s : State) : Bool := decide (i = .inLow) && s.input

/-- The operation is an input event that changes the level. -/
def flips (i : Instr) (s : State) : Bool := rises i s || falls i s

/-- The operation is a WR.W STAT with D[0] = 1. -/
def clearsOvf : Instr → Bool
  | .wrStat d => bit0 d
  | _ => false

/-- The 188 reserved labels, by R50's ranges. -/
def reservedLabel (op : Byte) : Bool :=
  decide (0x20 ≤ op.toNat ∧ op.toNat ≤ 0x3F) || decide (0x60 ≤ op.toNat ∧ op.toNat ≤ 0x7F) || decide (0x84 ≤ op.toNat)

/-- The six fields of the block that R15 names, apart from the bookkeeping. -/
def block (s : State) : Word × Bool × Bool × Bool × Bool × Bool :=
  (s.count, s.ovf, s.run, s.input, s.prev, s.valid)

/-- The turn calls `measure`. -/
def isCall : Turn → Bool
  | .issue _ => false
  | .measure _ => true
  | .client => false

/-- The turn neither calls `measure` nor resets the block. -/
def withinCall (t : Turn) : Bool := !isCall t && decide (t ≠ .issue (encode .reset))

/-- The run's turns are within one call of `measure`, with no reset. -/
def allWithinCall (ts : List Turn) : Prop := ∀ t ∈ ts, withinCall t = true

/-- The phase is one of wait context `x`. -/
def inWait (x : Ctx) (p : Phase) : Bool := p == .pinRd x || p == .ovfRd x || p == .clr x

/-- The run of `measure` has ended (R102). -/
def runEnded (s : State) : Bool := s.client.phase == .done || !s.faults.isEmpty

/-- The run is final: DONE with no fault recorded (R102). -/
def final (s : State) : Bool := s.client.phase == .done && s.faults.isEmpty

/-- What is observed of a run: the 32-bit result, and nothing of a run with a fault or still going on (R102). -/
def observe (s : State) : Option Long := if final s then some s.client.result else none

/-- A disconnected input: the level is PULL_LEVEL, and no turn to come drives the pin to the other level (R19). R19 does
not say whether an environment that drives one constant level takes the event of that level: that it may, the event
being a no-op there (R67, R68), is the model's choice (log entry 16). -/
def disconnected (s : State) : Prop :=
  s.input = Config.pullLevel ∧ .issue (encode (if Config.pullLevel then .inLow else .inHigh)) ∉ s.schedule

/-- An infinite run: `σ n` is the turn taken in `f n`, and it is taken (R28). -/
def InfiniteRun (σ : Nat → Turn) (f : Nat → State) : Prop := ∀ n, takeTurn (σ n) (f n) = .next (f (n + 1))

/-- Weak fairness of COUNTER (R30): if RUN = 1 from some point on, TICK steps keep coming. -/
def CounterFair (σ : Nat → Turn) (f : Nat → State) : Prop :=
  ∀ n, (∀ m, n ≤ m → (f m).run = true) → ∃ m, n ≤ m ∧ σ m = .issue (encode .tick)

/-- The turn is a host step: the client's, a call of `measure`, or a label that decodes to a host access (R28). -/
def isHostTurn : Turn → Bool
  | .issue w =>
    match decode w with
    | .ok i => decide (agentOf i = .host)
    | .error _ => false
  | .measure _ => true
  | .client => true

/-- Weak fairness of HOST (R30): if from some point on the host program has a step to issue, host steps keep coming.
`wants m` says that it has a label to issue or a call to make at point `m`, which no field of the state shows (log entry
18); inside `measure` it has the client's step. -/
def HostFair (wants : Nat → Prop) (σ : Nat → Turn) (f : Nat → State) : Prop :=
  ∀ n, (∀ m, n ≤ m → wants m ∨ (f m).client.phase.active = true) → ∃ m, n ≤ m ∧ isHostTurn (σ m) = true

/-- What each phase bounds: `ov`, `k` and the result, with `1 ≤ N` from the call on (R77, R78, R87, R90). -/
def Client.okUnder (p : Params) (c : Client) : Prop :=
  match c.phase with
  | .idle => True
  | .clr1 => c.n ≠ 0#16
  | .clr2 => c.n ≠ 0#16
  | .clr3 => c.n ≠ 0#16
  | .snapStart => c.n ≠ 0#16 ∧ c.ov = 0
  | .pinRd x => c.n ≠ 0#16 ∧ c.ov ≤ x.bound p ∧ (x = .ml ∨ x = .mh → c.k < c.n)
  | .ovfRd x => c.n ≠ 0#16 ∧ c.ov ≤ x.bound p ∧ (x = .ml ∨ x = .mh → c.k < c.n)
  | .clr x => c.n ≠ 0#16 ∧ c.ov ≤ x.bound p ∧ (x = .ml ∨ x = .mh → c.k < c.n)
  | .snapEnd => c.n ≠ 0#16 ∧ c.ov ≤ p.measBound ∧ c.k = c.n
  | .done =>
    c.n ≠ 0#16 ∧ c.ov ≤ max p.syncBound p.measBound + 1 ∧ c.result.toNat ≤ p.measBound * 65536 + 65535
  | .faulted => c.n ≠ 0#16 ∧ c.ov = 0 ∧ c.endv < c.start

/-- What holds of the client at every point of a run. -/
def clientOk (s : State) : Prop := Client.okUnder s.params s.client

end Sys2Proof.Safety
end

