-- ==== Sys2Proof/Certificates/Slice0/Obligations.lean ====
section
/-! DEFINITION. The statements for the provers, from the numbered rules of spec/. An operation's own statement gives the
whole next state as an update of the old one, so that every field it does not name is unchanged. -/

open Sys2Proof Sys2Proof.Machine Sys2Proof.Safety

/-! ## Encoding (30_encoding.md) -/

/-- Every operation of the table, with every operand, is read back from its own words (R45 to R47, R49). -/
def Obligations.DecodeReadsBackEveryEncoding : Prop :=
  ∀ i : Instr, i.wf = true → decode (encode i) = .ok i

/-- Words that decode are the words of the one well-formed operation they decode to (R45 to R47, R49). R49 reads the label
alone: that words with a stray or a missing D do not decode is the model's choice (log entry 15). -/
def Obligations.EncodeRestoresDecodedWords : Prop :=
  ∀ (w : StepWords) (i : Instr), decode w = .ok i → i.wf = true ∧ encode i = w

/-- R50 and R108: the reserved labels are exactly R50's ranges, there are 188 of them, and a step that finds one next is
refused at decode. -/
def Obligations.ReservedLabelsAreRefusedAtDecode : Prop :=
  (∀ (op : Byte) (d : Option Word),
    (∃ e, decode ⟨op, d⟩ = .error e ∧ e.isReservedLabel = true) ↔ reservedLabel op = true) ∧
  (List.range 256).countP (fun n => reservedLabel (BitVec.ofNat 8 n)) = 188 ∧
  (∀ (s : State) (op : Byte) (d : Option Word) (rest : List Turn),
    s.schedule = .issue ⟨op, d⟩ :: rest → reservedLabel op = true → ∃ e, step s = .refused (.undecoded e))

/-- A few labels of each family, written out bit by bit from R45 and R47, decode to their operations. -/
def Obligations.SpecLabelsDecodeToTheirOperations : Prop :=
  decode ⟨0b00010000#8, none⟩ = .ok .rdCnt ∧ decode ⟨0b01010010#8, some 0x0001#16⟩ = .ok (.wrStat 0x0001#16) ∧
  decode ⟨0b01010100#8, some 0x8001#16⟩ = .ok (.wrCtrl 0x8001#16) ∧ decode ⟨0b00011000#8, none⟩ = .ok .rdEdge ∧
  decode ⟨0b00011100#8, none⟩ = .ok .rdUnmappedC ∧ decode ⟨0b01010101#8, some 0#16⟩ = .ok (.wrOdd 0x5#4 0#16) ∧
  decode ⟨0b01000011#8, some 1#16⟩ = .ok (.wrByte 0x3#4 1#16) ∧ decode ⟨0b10000010#8, none⟩ = .ok .inHigh ∧
  decode ⟨0b10000011#8, none⟩ = .ok .reset ∧ decode ⟨0b10001000#8, none⟩ = .error .reservedEvent

/-- R31: FRC_BASE is a multiple of 16, an access at FRC_BASE + A is delivered at offset A with its width, and an address
outside the window reaches nothing. -/
def Obligations.WindowAddressesReachTheirOffsets : Prop :=
  Config.frcBase % 16 = 0 ∧
  (∀ (a : Offset) (wd : Width) (v : Word),
    memRead (Config.frcBase + a.toNat) wd = some (readWords wd a) ∧
    memWrite (Config.frcBase + a.toNat) wd v = some (writeWords wd a v)) ∧
  (∀ (addr : Nat) (wd : Width) (v : Word), addr < Config.frcBase ∨ Config.frcBase + 15 < addr →
    memRead addr wd = none ∧ memWrite addr wd v = none)

/-- R53, R54: what the assembler's lines and the pseudo-instructions stand for, label by label. -/
def Obligations.AssemblerLinesGiveTheirLabels : Prop :=
  (∀ a : Offset, assemble (.rdW (.num a.toNat)) = some ⟨0x10#8 + a.setWidth 8, none⟩ ∧
    assemble (.rdB a.toNat) = some ⟨a.setWidth 8, none⟩) ∧
  (∀ (a : Offset) (v : Word),
    assemble (.wrW (.num a.toNat) v.toNat) = some ⟨0x50#8 + a.setWidth 8, some v⟩) ∧
  (∀ (a : Offset) (v : Byte),
    assemble (.wrB a.toNat v.toNat) = some ⟨0x40#8 + a.setWidth 8, some (v.setWidth 16)⟩) ∧
  (∀ (r : Reg) (v : Nat), assemble (.rdW (.reg r)) = assemble (.rdW (.num (regOffset r).toNat)) ∧
    assemble (.wrW (.reg r) v) = assemble (.wrW (.num (regOffset r).toNat) v)) ∧
  [regOffset .cnt, regOffset .stat, regOffset .ctrl, regOffset .pin, regOffset .edge] = [0x0#4, 0x2#4, 0x4#4, 0x6#4, 0x8#4] ∧
  (∀ (t : Target) (v : Nat), 65536 ≤ v → assemble (.wrW t v) = none) ∧
  [assemble .tick, assemble .inLow, assemble .inHigh, assemble .reset] =
    [some ⟨0x80#8, none⟩, some ⟨0x81#8, none⟩, some ⟨0x82#8, none⟩, some ⟨0x83#8, none⟩] ∧
  (expand .clrovf).map assemble = [some ⟨0x52#8, some 1#16⟩] ∧ (expand .start).map assemble = [some ⟨0x54#8, some 1#16⟩] ∧
  (expand .snap).map assemble = [some ⟨0x10#8, none⟩] ∧ (expand .pollovf).map assemble = [some ⟨0x12#8, none⟩] ∧
  (expand .level).map assemble = [some ⟨0x16#8, none⟩] ∧ (expand .sample).map assemble = [some ⟨0x18#8, none⟩] ∧
  (∀ n, (expand (.ticks n)).map assemble = List.replicate n (some ⟨0x80#8, none⟩))

/-! ## The step (00_scope.md R11, 20_memory.md R28, R29) -/

/-- A step whose next turn issues words that decode runs the operation they decode to, with the rest of the schedule
left, and counts the TICK steps since the last host step. A bus label needs the host free and its gap admitted (the
schedule and the count are the model's, log entries 1 and 11). -/
def Obligations.StepRunsTheIssuedOperation : Prop :=
  ∀ (s : State) (w : StepWords) (rest : List Turn) (i : Instr),
    s.schedule = .issue w :: rest → decode w = .ok i →
    (agentOf i = .host → s.client.phase.active = false ∧ gapAdmits s.params s.sinceHost = true) →
    ∃ t, exec i { s with schedule := rest } = .next t ∧
      step s = .next { t with
        sinceHost := if agentOf i = .host then some 0 else if i = .tick then s.sinceHost.map (· + 1) else s.sinceHost }

/-- A step whose next turn is the client's runs the operation of its phase, and the client advances on the answer. -/
def Obligations.StepRunsTheClientsOperation : Prop :=
  ∀ (s : State) (rest : List Turn) (i : Instr),
    s.schedule = .client :: rest → s.client.phase.operation = some i → s.params.measBound ≤ 65535 →
    gapAdmits s.params s.sinceHost = true →
    ∃ t, exec i { s with schedule := rest } = .next t ∧
      step s = .next { t with
        sinceHost := some 0
        client := s.client.advance s.params (Response.dataOf t.resp)
        faults := t.faults ++ s.client.underflow (Response.dataOf t.resp) }

/-- The bits placed by withFetchWord are what the very next step runs, and the schedule is then as it was. For a bus
label the host has been set free (log entry 1). -/
def Obligations.PlacedWordRunsNext : Prop :=
  ∀ (s : State) (nbits w : Nat) (i : Instr), decodeTableWord nbits w = some i →
    ∃ t, exec i (if agentOf i = .host then s.releaseHost else s) = .next t ∧
      step (s.withFetchWord nbits w) = .next { t with
        sinceHost := if agentOf i = .host then some 0 else if i = .tick then s.sinceHost.map (· + 1) else s.sinceHost }

/-- Running the machine for as many steps as the schedule has turns is taking the turns one after another. -/
def Obligations.MachineRunTakesTheScheduledTurns : Prop :=
  ∀ (ts : List Turn) (s : State), s.schedule = [] →
    (Sys2Proof.core.run ts.length { s with schedule := ts } : Host.Outcome State Fault Refusal) = runTurns ts s

/-- Along a run of turns the block's six fields are those the operations taken leave, in their order (R11, R28, R40). -/
def Obligations.BlockFollowsTheOperationsTaken : Prop :=
  ∀ (ts : List Turn) (s t : State), runTurns ts s = .next t →
    ∃ u, runOps (opsOf ts s) s = .next u ∧ block u = block t

/-- A step takes exactly one turn off the schedule and changes no parameter (R8). -/
def Obligations.StepConsumesOneTurn : Prop :=
  ∀ s t : State, step s = .next t → (∃ x, s.schedule = x :: t.schedule) ∧ t.params = s.params

/-- R29: a host step (a bus label, a client's step or a call of `measure`) outside TICKS_BETWEEN_MIN to TICKS_BETWEEN_MAX
TICK steps after the last host step is not admitted; with the defaults of R8 every gap is. That the later host step is
the one refused is the model's choice (log entry 11). -/
def Obligations.HostStepsKeepTheTickBounds : Prop :=
  (∀ (s : State) (rest : List Turn) (g : Nat),
    s.sinceHost = some g → (g < s.params.ticksMin ∨ ∃ m, s.params.ticksMax = some m ∧ m < g) →
    (∀ (w : StepWords) (i : Instr), s.schedule = .issue w :: rest → decode w = .ok i → agentOf i = .host →
      s.client.phase.active = false → step s = .refused .gapNotAdmitted) ∧
    (∀ i : Instr, s.schedule = .client :: rest → s.client.phase.operation = some i → s.params.measBound ≤ 65535 →
      step s = .refused .gapNotAdmitted) ∧
    (∀ n : Word, s.schedule = .measure n :: rest → s.client.phase.active = false → n ≠ 0#16 →
      s.params.measBound ≤ 65535 → step s = .refused .gapNotAdmitted)) ∧
  (∀ gap : Option Nat, gapAdmits Params.default gap = true)

/-- R118 with R100: while the one host is inside `measure`, a bus label or a second call can only be another host's, and
is refused (DEDUCED, log entry 9). -/
def Obligations.SecondHostIsRefused : Prop :=
  ∀ (s : State) (rest : List Turn), s.client.phase.active = true →
    (∀ (w : StepWords) (i : Instr), s.schedule = .issue w :: rest → decode w = .ok i → agentOf i = .host →
      step s = .refused .hostBusy) ∧
    (∀ n : Word, s.schedule = .measure n :: rest → step s = .refused .hostBusy)

/-! ## The counter, the flag and run control (40_counter.md) -/

/-- R57: TICK. -/
def Obligations.TickCountsAndSetsOvfOnAWrap : Prop :=
  decode ⟨0x80#8, none⟩ = .ok .tick ∧ agentOf .tick = .counter ∧
  (∀ s : State, s.run = false → exec .tick s = .next { s with resp := none }) ∧
  (∀ s : State, s.run = true → s.count = 0xFFFF#16 →
    exec .tick s = .next { s with count := 0x0000#16, ovf := true, resp := none }) ∧
  (∀ s : State, s.run = true → s.count ≠ 0xFFFF#16 →
    exec .tick s = .next { s with count := BitVec.ofNat 16 (s.count.toNat + 1), resp := none })

/-- R59, R61, R63, R69: the four reads without a side effect answer with their field and change nothing. -/
def Obligations.PlainReadsAnswerAndChangeNothing : Prop :=
  decode ⟨0x10#8, none⟩ = .ok .rdCnt ∧ decode ⟨0x12#8, none⟩ = .ok .rdStat ∧
  decode ⟨0x14#8, none⟩ = .ok .rdCtrl ∧ decode ⟨0x16#8, none⟩ = .ok .rdPin ∧
  ∀ s : State,
    exec .rdCnt s = .next { s with resp := some (.okData s.count) } ∧
    exec .rdStat s = .next { s with resp := some (.okData (if s.ovf then 0x0001#16 else 0x0000#16)) } ∧
    exec .rdCtrl s = .next { s with resp := some (.okData (if s.run then 0x0001#16 else 0x0000#16)) } ∧
    exec .rdPin s = .next { s with resp := some (.okData (if s.input then 0x0001#16 else 0x0000#16)) }

/-- R60, R70, R72: a write to CNT, PIN or EDGE is answered OK and changes nothing. -/
def Obligations.WritesToReadOnlyRegistersChangeNothing : Prop :=
  ∀ (s : State) (d : Word),
    decode ⟨0x50#8, some d⟩ = .ok (.wrCnt d) ∧ decode ⟨0x56#8, some d⟩ = .ok (.wrPin d) ∧
    decode ⟨0x58#8, some d⟩ = .ok (.wrEdge d) ∧
    exec (.wrCnt d) s = .next { s with resp := some .ok } ∧ exec (.wrPin d) s = .next { s with resp := some .ok } ∧
    exec (.wrEdge d) s = .next { s with resp := some .ok }

/-- R62: WR.W STAT clears OVF when D[0] = 1 and changes nothing when D[0] = 0. -/
def Obligations.StatWriteOneClearsOvf : Prop :=
  ∀ (s : State) (d : Word),
    decode ⟨0x52#8, some d⟩ = .ok (.wrStat d) ∧
    (d.getLsbD 0 = true → exec (.wrStat d) s = .next { s with ovf := false, resp := some .ok }) ∧
    (d.getLsbD 0 = false → exec (.wrStat d) s = .next { s with resp := some .ok })

/-- R64: WR.W CTRL sets RUN when D[0] = 1 and changes nothing when D[0] = 0. -/
def Obligations.CtrlWriteOneSetsRun : Prop :=
  ∀ (s : State) (d : Word),
    decode ⟨0x54#8, some d⟩ = .ok (.wrCtrl d) ∧
    (d.getLsbD 0 = true → exec (.wrCtrl d) s = .next { s with run := true, resp := some .ok }) ∧
    (d.getLsbD 0 = false → exec (.wrCtrl d) s = .next { s with resp := some .ok })

/-- R58: along any operations without a RESET, from RUN = 1, the count has moved by the TICKs taken, the wraps taken are
the quotient, and without a clear OVF is its old value or one wrap at least. -/
def Obligations.CounterArithmeticLaw : Prop :=
  ∀ (ops : List Instr) (s : State), s.run = true → .reset ∉ ops →
    ∃ t, runOps ops s = .next t ∧
      t.count.toNat = (s.count.toNat + ops.count .tick) % 65536 ∧
      countOps wraps ops s = (s.count.toNat + ops.count .tick) / 65536 ∧
      ((∀ i ∈ ops, clearsOvf i = false) →
        t.ovf = (s.ovf || decide (1 ≤ (s.count.toNat + ops.count .tick) / 65536)))

/-- R66: after a clear, with no other clear and no RESET since, a read of STAT returns 1 exactly when a wrap was taken
in between, however many were. -/
def Obligations.StatReadsAnyWrapSinceTheClear : Prop :=
  ∀ (d : Word) (ops : List Instr) (s : State), d.getLsbD 0 = true → .reset ∉ ops →
    (∀ i ∈ ops, clearsOvf i = false) →
    ∃ c t u, exec (.wrStat d) s = .next c ∧ runOps ops c = .next t ∧ exec .rdStat t = .next u ∧
      u.resp = some (.okData (if 1 ≤ countOps wraps ops c then 0x0001#16 else 0x0000#16))

/-- R112: the order of a wrap and a CLROVF, and of an input change and a PIN read, decides their outcome. -/
def Obligations.OrderOfStepsDecidesTheOutcome : Prop :=
  ∀ s : State,
    (s.run = true → s.count = 0xFFFF#16 →
      (∃ t, runOps [.tick, .wrStat 0x0001#16] s = .next t ∧ t.count = 0x0000#16 ∧ t.ovf = false) ∧
      (∃ t, runOps [.wrStat 0x0001#16, .tick] s = .next t ∧ t.count = 0x0000#16 ∧ t.ovf = true)) ∧
    (s.input = false →
      (∃ t, runOps [.inHigh, .rdPin] s = .next t ∧ t.resp = some (.okData 0x0001#16)) ∧
      (∃ t u, runOps [.rdPin] s = .next t ∧ t.resp = some (.okData 0x0000#16) ∧ runOps [.inHigh] t = .next u ∧
        u.input = true))

/-! ## The input and the edge detector (41_input.md) -/

/-- R67, R68: IN_LOW and IN_HIGH drive the level and nothing else. -/
def Obligations.InputEventsDriveTheLevel : Prop :=
  decode ⟨0x81#8, none⟩ = .ok .inLow ∧ decode ⟨0x82#8, none⟩ = .ok .inHigh ∧
  agentOf .inLow = .env ∧ agentOf .inHigh = .env ∧
  ∀ s : State, exec .inLow s = .next { s with input := false, resp := none } ∧
    exec .inHigh s = .next { s with input := true, resp := none }

/-- R71: RD.W EDGE answers LEVEL, RISE and FALL from the previous sample, bit by bit, and keeps the new sample. -/
def Obligations.EdgeReadComparesAndKeepsTheSample : Prop :=
  decode ⟨0x18#8, none⟩ = .ok .rdEdge ∧
  ∀ s : State, ∃ v : Word,
    exec .rdEdge s = .next { s with prev := s.input, valid := true, resp := some (.okData v) } ∧
    v.getLsbD 0 = s.input ∧
    (v.getLsbD 1 = true ↔ s.valid = true ∧ s.prev = false ∧ s.input = true) ∧
    (v.getLsbD 2 = true ↔ s.valid = true ∧ s.prev = true ∧ s.input = false) ∧
    ∀ j, 3 ≤ j → v.getLsbD j = false

/-- R20: after a RESET, whatever is taken before it short of an EDGE read, the first EDGE read reports no edge. -/
def Obligations.FirstEdgeReadAfterResetReportsNoEdge : Prop :=
  ∀ (ops : List Instr) (s : State), .rdEdge ∉ ops →
    ∃ t v, runOps (.reset :: ops ++ [.rdEdge]) s = .next t ∧ t.resp = some (.okData v) ∧
      v.getLsbD 1 = false ∧ v.getLsbD 2 = false

/-- R73: between two consecutive EDGE reads without a RESET, an even number of level changes shows no edge and an odd
number shows exactly one, in the direction of the net change; the level itself has flipped accordingly. -/
def Obligations.EdgeReadsSeeOnlyTheNetChange : Prop :=
  ∀ (ops : List Instr) (s : State), .rdEdge ∉ ops → .reset ∉ ops →
    ∃ a t u v, exec .rdEdge s = .next a ∧ runOps ops a = .next t ∧ exec .rdEdge t = .next u ∧
      u.resp = some (.okData v) ∧
      (countOps flips ops a % 2 = 0 → t.input = a.input ∧ v.getLsbD 1 = false ∧ v.getLsbD 2 = false) ∧
      (countOps flips ops a % 2 = 1 →
        t.input = !a.input ∧ v.getLsbD 1 = v.getLsbD 0 ∧ v.getLsbD 2 = !v.getLsbD 0)

/-- R74: a PIN read of 0 and a later one of 1 have a rising transition between them, and 1 and then 0 a falling one. -/
def Obligations.PinReadPairsProveATransition : Prop :=
  ∀ (ops : List Instr) (s a t u : State), exec .rdPin s = .next a → runOps ops a = .next t → exec .rdPin t = .next u →
    (a.resp = some (.okData 0x0000#16) → u.resp = some (.okData 0x0001#16) → 1 ≤ countOps rises ops a) ∧
    (a.resp = some (.okData 0x0001#16) → u.resp = some (.okData 0x0000#16) → 1 ≤ countOps falls ops a)

/-! ## The error accesses (60_exceptions.md) -/

/-- R104: every 8-bit access answers ERR(WIDTH), is recorded, and changes no field of the block. -/
def Obligations.ByteAccessesRaiseWidth : Prop :=
  Cause.width.code = 1 ∧
  ∀ (s : State) (a : Offset) (d : Word),
    decode ⟨0x0#4 ++ a, none⟩ = .ok (.rdByte a) ∧ decode ⟨0x4#4 ++ a, some d⟩ = .ok (.wrByte a d) ∧
    exec (.rdByte a) s = .next { s with
      faults := s.faults ++ [.busError (0x0#4 ++ a) a none .width], resp := some (.err .width) } ∧
    exec (.wrByte a d) s = .next { s with
      faults := s.faults ++ [.busError (0x4#4 ++ a) a (some d) .width], resp := some (.err .width) }

/-- R105: every 16-bit access at an odd offset answers ERR(ALIGN), is recorded, and changes no field of the block. -/
def Obligations.OddAccessesRaiseAlign : Prop :=
  Cause.align.code = 2 ∧
  ∀ (s : State) (a : Offset) (d : Word), a.toNat % 2 = 1 →
    decode ⟨0x1#4 ++ a, none⟩ = .ok (.rdOdd a) ∧ decode ⟨0x5#4 ++ a, some d⟩ = .ok (.wrOdd a d) ∧
    exec (.rdOdd a) s = .next { s with
      faults := s.faults ++ [.busError (0x1#4 ++ a) a none .align], resp := some (.err .align) } ∧
    exec (.wrOdd a d) s = .next { s with
      faults := s.faults ++ [.busError (0x5#4 ++ a) a (some d) .align], resp := some (.err .align) }

/-- R106: every 16-bit access at 0xA, 0xC or 0xE answers ERR(UNMAPPED), is recorded, and changes no field of the
block. -/
def Obligations.UnmappedAccessesRaiseUnmapped : Prop :=
  Cause.unmapped.code = 3 ∧
  ∀ (s : State) (d : Word),
    decode ⟨0x1A#8, none⟩ = .ok .rdUnmappedA ∧ decode ⟨0x1C#8, none⟩ = .ok .rdUnmappedC ∧
    decode ⟨0x1E#8, none⟩ = .ok .rdUnmappedE ∧ decode ⟨0x5A#8, some d⟩ = .ok (.wrUnmappedA d) ∧
    decode ⟨0x5C#8, some d⟩ = .ok (.wrUnmappedC d) ∧ decode ⟨0x5E#8, some d⟩ = .ok (.wrUnmappedE d) ∧
    exec .rdUnmappedA s = .next { s with
      faults := s.faults ++ [.busError 0x1A#8 0xA#4 none .unmapped], resp := some (.err .unmapped) } ∧
    exec .rdUnmappedC s = .next { s with
      faults := s.faults ++ [.busError 0x1C#8 0xC#4 none .unmapped], resp := some (.err .unmapped) } ∧
    exec .rdUnmappedE s = .next { s with
      faults := s.faults ++ [.busError 0x1E#8 0xE#4 none .unmapped], resp := some (.err .unmapped) } ∧
    exec (.wrUnmappedA d) s = .next { s with
      faults := s.faults ++ [.busError 0x5A#8 0xA#4 (some d) .unmapped], resp := some (.err .unmapped) } ∧
    exec (.wrUnmappedC d) s = .next { s with
      faults := s.faults ++ [.busError 0x5C#8 0xC#4 (some d) .unmapped], resp := some (.err .unmapped) } ∧
    exec (.wrUnmappedE d) s = .next { s with
      faults := s.faults ++ [.busError 0x5E#8 0xE#4 (some d) .unmapped], resp := some (.err .unmapped) }

/-- R107: of the causes that apply to one access only the first of WIDTH, ALIGN, UNMAPPED is reported, and an access to
which none applies is no error. -/
def Obligations.BusErrorCausesFollowThePriority : Prop :=
  ∀ (op : Byte) (d : Option Word) (i : Instr) (s : State),
    decode ⟨op, d⟩ = .ok i → agentOf i = .host →
    ∃ t, exec i s = .next t ∧
      (op.getLsbD 4 = false → t.resp = some (.err .width)) ∧
      (op.getLsbD 4 = true → op.getLsbD 0 = true → t.resp = some (.err .align)) ∧
      (op.getLsbD 4 = true → op.getLsbD 0 = false → 0xA ≤ op.toNat % 16 → t.resp = some (.err .unmapped)) ∧
      (op.getLsbD 4 = true → op.getLsbD 0 = false → op.toNat % 16 < 0xA →
        t.faults = s.faults ∧ ∀ c, t.resp ≠ some (.err c))

/-- R103, with R37: an access that answers ERR changes no field of the block and adds its one record, and the codes are
1, 2 and 3. -/
def Obligations.ErrorAnswersChangeNoField : Prop :=
  (Cause.width.code = 1 ∧ Cause.align.code = 2 ∧ Cause.unmapped.code = 3) ∧
  ∀ (i : Instr) (s t : State) (c : Cause), exec i s = .next t → t.resp = some (.err c) →
    block t = block s ∧
    t.faults = s.faults ++ [.busError (encode i).label (labelOffset (encode i).label) (encode i).data c]

/-- R109: no step removes a record of FAULTS, and a run with a record is never final. -/
def Obligations.FaultRecordsAreNeverRemoved : Prop :=
  ∀ s t : State, step s = .next t →
    (∃ new, t.faults = s.faults ++ new ∧ new.length ≤ 1) ∧ (s.faults ≠ [] → final t = false ∧ observe t = none)

/-- R114: while the client is inside `measure` a step records nothing or one ElapsedUnderflow, never a BusError. That no
other host access is taken there is DEDUCED (log entry 9). -/
def Obligations.NoBusErrorInsideMeasure : Prop :=
  ∀ s t : State, step s = .next t → s.client.phase.active = true →
    t.faults = s.faults ∨ ∃ a b, t.faults = s.faults ++ [.elapsedUnderflow a b]

/-! ## What changes what (10_state.md) -/

/-- The "written by" column of R15, with R16 to R18: which operation a step took when a field of the block has changed. -/
def Obligations.FieldsChangeOnlyByTheirWriters : Prop :=
  ∀ s t : State, step s = .next t →
    ∃ x rest i, s.schedule = x :: rest ∧ opOf x s = some i ∧
      (t.count ≠ s.count → (i = .tick ∧ s.run = true) ∨ i = .reset) ∧
      (t.ovf ≠ s.ovf → (i = .tick ∧ s.run = true ∧ s.count = 0xFFFF#16 ∧ t.ovf = true) ∨
        (∃ d, i = .wrStat d ∧ d.getLsbD 0 = true ∧ t.ovf = false) ∨ i = .reset) ∧
      (t.run ≠ s.run → (∃ d, i = .wrCtrl d ∧ d.getLsbD 0 = true ∧ t.run = true) ∨ (i = .reset ∧ t.run = false)) ∧
      (t.input ≠ s.input → (i = .inLow ∧ t.input = false) ∨ (i = .inHigh ∧ t.input = true)) ∧
      (t.prev ≠ s.prev → i = .rdEdge ∨ i = .reset) ∧
      (t.valid ≠ s.valid → (i = .rdEdge ∧ t.valid = true) ∨ (i = .reset ∧ t.valid = false))

/-- R22 to R25: reserved bits read 0, and RISE and FALL are never both 1. -/
def Obligations.ReservedBitsReadZero : Prop :=
  ∀ (i : Instr) (s t : State) (v : Word), exec i s = .next t → agentOf i = .host → t.resp = some (.okData v) →
    (i = .rdStat ∨ i = .rdCtrl ∨ i = .rdPin → v.toNat < 2) ∧
    (i = .rdEdge → v.toNat < 8 ∧ ¬ (v.getLsbD 1 = true ∧ v.getLsbD 2 = true))

/-- R37: a host access repeated at once answers the same and leaves the same block, except that the second of two EDGE
reads reports no edge. -/
def Obligations.RepeatedAccessesAnswerTheSame : Prop :=
  (∀ (i : Instr) (s : State), agentOf i = .host → i ≠ .rdEdge →
    ∃ t u, exec i s = .next t ∧ exec i t = .next u ∧ u.resp = t.resp ∧ block u = block t) ∧
  (∀ s : State, ∃ t u v, exec .rdEdge s = .next t ∧ exec .rdEdge t = .next u ∧ block u = block t ∧
    u.resp = some (.okData v) ∧ v.getLsbD 1 = false ∧ v.getLsbD 2 = false)

/-! ## Reset (70_reset_and_hazards.md) -/

/-- R121: RESET leaves COUNT, OVF and PREV at some values, RUN and VALID at 0, and IN and FAULTS as they were. The model's
own count of resets (log entry 3) may change. -/
def Obligations.ResetDrawsAndClears : Prop :=
  decode ⟨0x83#8, none⟩ = .ok .reset ∧ agentOf .reset = .platform ∧
  ∀ s : State, ∃ (c : Word) (o p : Bool) (n : Nat), exec .reset s = .next { s with
    count := c, ovf := o, run := false, prev := p, valid := false, resp := none, draws := n }

/-- R122, R123: the machine starts in a power-on state, and every power-on state, whatever its draws, has RUN = 0,
VALID = 0 and no fault recorded, reads 0 in CTRL, and counts no TICK. -/
def Obligations.PowerOnIsStoppedAndFaultFree : Prop :=
  (∃ c o p lvl, State.reset = State.powerOn c o p lvl) ∧
  ∀ (c : Word) (o p lvl : Bool),
    (State.powerOn c o p lvl).run = false ∧ (State.powerOn c o p lvl).valid = false ∧
    (State.powerOn c o p lvl).faults = [] ∧ (State.powerOn c o p lvl).count = c ∧
    (State.powerOn c o p lvl).ovf = o ∧ (State.powerOn c o p lvl).prev = p ∧ (State.powerOn c o p lvl).input = lvl ∧
    (∃ t, exec .rdCtrl (State.powerOn c o p lvl) = .next t ∧ t.resp = some (.okData 0x0000#16)) ∧
    exec .tick (State.powerOn c o p lvl) = .next (State.powerOn c o p lvl)

/-! ## The reference client (45_reference_fsm.md) -/

/-- R78, R79, R87, R110: a call of `measure` with N positive and MEAS_BOUND at most 65535 takes CLR1; with N = 0, or
with MEAS_BOUND above 65535, it is refused. That the call's own turn takes CLR1 is DEDUCED (log entry 8). -/
def Obligations.MeasureEntryTakesClr1OrIsRefused : Prop :=
  ∀ (s : State) (n : Word) (rest : List Turn), s.schedule = .measure n :: rest → s.client.phase.active = false →
    (n = 0#16 → step s = .refused .measureZero) ∧
    (n ≠ 0#16 → 65535 < s.params.measBound → step s = .refused .measBoundTooLarge) ∧
    (n ≠ 0#16 → s.params.measBound ≤ 65535 → gapAdmits s.params s.sinceHost = true →
      step s = .next { s with
        schedule := rest, ovf := false, resp := some .ok, sinceHost := some 0
        client := { s.client with phase := .pinRd .sl, n := n, ov := 0 } })

/-- R79, R81 to R84: the straight-line phases, each one host step. -/
def Obligations.StraightLinePhasesAdvance : Prop :=
  ∀ (s : State) (rest : List Turn), s.schedule = .client :: rest → s.params.measBound ≤ 65535 →
    gapAdmits s.params s.sinceHost = true →
    (s.client.phase = .clr1 → step s = .next { s with
      schedule := rest, ovf := false, resp := some .ok, sinceHost := some 0
      client := { s.client with phase := .pinRd .sl, ov := 0 } }) ∧
    (s.client.phase = .clr2 → step s = .next { s with
      schedule := rest, ovf := false, resp := some .ok, sinceHost := some 0
      client := { s.client with phase := .pinRd .sh, ov := 0 } }) ∧
    (s.client.phase = .clr3 → step s = .next { s with
      schedule := rest, ovf := false, resp := some .ok, sinceHost := some 0
      client := { s.client with phase := .snapStart, ov := 0 } }) ∧
    (s.client.phase = .snapStart → step s = .next { s with
      schedule := rest, resp := some (.okData s.count), sinceHost := some 0
      client := { s.client with phase := .pinRd .ml, start := s.count, k := 0#16 } })

/-- R80 and R79's exits: the pin test of a wait. At the target the wait ends at that step, with no STAT read. -/
def Obligations.PinTestEndsOrContinuesTheWait : Prop :=
  ∀ (s : State) (rest : List Turn) (x : Ctx), s.schedule = .client :: rest → s.params.measBound ≤ 65535 →
    gapAdmits s.params s.sinceHost = true → s.client.phase = .pinRd x →
    ∃ c : Client,
      step s = .next { s with
        schedule := rest, resp := some (.okData (if s.input then 0x0001#16 else 0x0000#16)), sinceHost := some 0
        client := c } ∧
      (s.input ≠ x.target → c = { s.client with phase := .ovfRd x }) ∧
      (s.input = x.target → x = .sl → c = { s.client with phase := .clr2 }) ∧
      (s.input = x.target → x = .sh → c = { s.client with phase := .clr3 }) ∧
      (s.input = x.target → x = .ml → c = { s.client with phase := .pinRd .mh }) ∧
      (s.input = x.target → x = .mh → s.client.k + 1#16 < s.client.n →
        c = { s.client with phase := .pinRd .ml, k := s.client.k + 1#16 }) ∧
      (s.input = x.target → x = .mh → s.client.k + 1#16 = s.client.n →
        c = { s.client with phase := .snapEnd, k := s.client.k + 1#16 })

/-- R80, R89, R90: the flag test of a wait, and the clear that counts it: past the bound the call returns 0 with OVF
cleared and has no further host step. That a client turn there is refused is DEDUCED (log entry 10). -/
def Obligations.FlagTestCountsAndAborts : Prop :=
  ∀ (s : State) (rest : List Turn) (x : Ctx), s.schedule = .client :: rest → s.params.measBound ≤ 65535 →
    gapAdmits s.params s.sinceHost = true →
    (s.client.phase = .ovfRd x → step s = .next { s with
      schedule := rest, resp := some (.okData (if s.ovf then 0x0001#16 else 0x0000#16)), sinceHost := some 0
      client := { s.client with phase := if s.ovf then .clr x else .pinRd x } }) ∧
    (s.client.phase = .clr x → s.client.ov + 1 ≤ x.bound s.params → step s = .next { s with
      schedule := rest, ovf := false, resp := some .ok, sinceHost := some 0
      client := { s.client with phase := .pinRd x, ov := s.client.ov + 1 } }) ∧
    (s.client.phase = .clr x → x.bound s.params < s.client.ov + 1 →
      ∃ t, step s = .next t ∧ t = { s with
        schedule := rest, ovf := false, resp := some .ok, sinceHost := some 0
        client := { s.client with phase := .done, ov := s.client.ov + 1, result := 0#32 } } ∧
        clientTurn t = .refused .clientNotEnabled)

/-- R85, R86, R88, R91: SNAP_END reads the count and either records ElapsedUnderflow, with no result, or ends with the
result `ov * 65536 + endv - start`, an integer that fits 32 bits when `ov` is at most 65535. The phase `faulted` of the
first case is the model's choice (log entry 7). -/
def Obligations.SnapEndGivesTheElapsedTicks : Prop :=
  ∀ (s : State) (rest : List Turn), s.schedule = .client :: rest → s.params.measBound ≤ 65535 →
    gapAdmits s.params s.sinceHost = true → s.client.phase = .snapEnd → s.client.ov ≤ 65535 →
    ∃ t, step s = .next t ∧ t.client.endv = s.count ∧ t.client.start = s.client.start ∧ block t = block s ∧
      (s.count < s.client.start ∧ s.client.ov = 0 →
        t.client.phase = .faulted ∧ t.faults = s.faults ++ [.elapsedUnderflow s.client.start s.count]) ∧
      (¬ (s.count < s.client.start ∧ s.client.ov = 0) →
        t.client.phase = .done ∧ t.faults = s.faults ∧
        t.client.ov = (if s.count < s.client.start then s.client.ov - 1 else s.client.ov) ∧
        (t.client.result.toNat : Int) = (s.client.ov : Int) * 65536 + s.count.toNat - s.client.start.toNat)

/-- What holds of the client at every point of a run (R77, R78, R87, R90) is kept by every step. -/
def Obligations.ClientInvariantIsKeptByEveryStep : Prop :=
  ∀ s t : State, clientOk s → step s = .next t → clientOk t

/-- The client's invariant holds at reset. -/
def Obligations.ClientInvariantHoldsAtReset : Prop := clientOk State.reset

/-- R92, with R58 and R91: from the state SNAP_START leaves to SNAP_END, with no RESET, `endv` and the TICKs T are
related by the wraps W, the result is T + 65536 * (ov5 - W), and so it is exact if and only if ov5 = W. -/
def Obligations.ResultIsExactUpToMiscountedWraps : Prop :=
  ∀ (ts : List Turn) (s t u : State), clientOk s → s.client.phase = .pinRd .ml →
    s.client.start = s.count → allWithinCall ts → runTurns ts s = .next t → t.client.phase = .snapEnd →
    clientTurn t = .next u → u.client.phase = .done →
    u.client.endv.toNat = (s.client.start.toNat + countOps counts (opsOf ts s) s) % 65536 ∧
    (countOps counts (opsOf ts s) s : Int) =
      (countOps wraps (opsOf ts s) s : Int) * 65536 + u.client.endv.toNat - s.client.start.toNat ∧
    (u.client.result.toNat : Int) =
      (countOps counts (opsOf ts s) s : Int) + 65536 * ((t.client.ov : Int) - countOps wraps (opsOf ts s) s) ∧
    (u.client.result.toNat = countOps counts (opsOf ts s) s ↔ t.client.ov = countOps wraps (opsOf ts s) s)

/-- R93's count: a wait that aborts has seen at least bound + 1 wraps since the step that last set `ov` to 0 and cleared
OVF, and that takes at least bound * 65536 + 1 TICKs. -/
def Obligations.AbortNeedsBoundPlusOneWraps : Prop :=
  ∀ (ts : List Turn) (s t u : State) (x : Ctx), s.client.ov = 0 → s.ovf = false → (∀ y, s.client.phase ≠ .clr y) →
    allWithinCall ts → runTurns ts s = .next t → t.client.phase = .clr x →
    clientTurn t = .next u → u.client.phase = .done →
    x.bound s.params + 1 ≤ countOps wraps (opsOf ts s) s ∧
    x.bound s.params * 65536 + 1 ≤ countOps counts (opsOf ts s) s

/-- R97: a rising transition lies between the SL exit, which read 0, and the SH exit, which read 1. -/
def Obligations.SynchronizationSpansARise : Prop :=
  ∀ (ts : List Turn) (s t : State), s.client.phase = .clr2 → s.input = false → (∀ x ∈ ts, isCall x = false) →
    runTurns ts s = .next t → t.client.phase = .clr3 → 1 ≤ countOps rises (opsOf ts s) s

/-- R98: from the SH exit, which read 1, to the MH exit of the N-th iteration, at least N rising and at least N falling
transitions are taken. -/
def Obligations.MeasurementSpansNPeriods : Prop :=
  ∀ (ts : List Turn) (s t : State), s.client.phase = .clr3 → s.input = true → (∀ x ∈ ts, isCall x = false) →
    runTurns ts s = .next t → t.client.phase = .snapEnd →
    t.client.n = s.client.n ∧ s.client.n.toNat ≤ countOps rises (opsOf ts s) s ∧
    s.client.n.toNat ≤ countOps falls (opsOf ts s) s

/-- R95: with TICKS_BETWEEN_MIN at least 1, at least 2N + 1 TICKs lie between SNAP_START and SNAP_END. -/
def Obligations.MinimumGapForcesTicksBetweenSnapshots : Prop :=
  ∀ (ts : List Turn) (s t u : State), 1 ≤ s.params.ticksMin → s.client.phase = .pinRd .ml → s.client.k = 0#16 →
    s.client.n ≠ 0#16 → s.sinceHost = some 0 → (∀ x ∈ ts, isCall x = false) → runTurns ts s = .next t →
    t.client.phase = .snapEnd → clientTurn t = .next u →
    2 * s.client.n.toNat + 1 ≤ (opsOf ts s).count .tick

/-- R94: with the counter not running, OVF clear and the input kept off the target, a wait goes on for ever: however
long the client, the counter and the environment move, every turn is taken and the wait has not ended. -/
def Obligations.WaitWithoutCounterNeverEnds : Prop :=
  ∀ (ts : List Turn) (s : State) (x : Ctx),
    s.run = false → s.ovf = false → s.input ≠ x.target → (s.client.phase = .pinRd x ∨ s.client.phase = .ovfRd x) →
    s.params.measBound ≤ 65535 → s.params.ticksMin = 0 → s.params.ticksMax = none →
    (∀ y ∈ ts, y = .client ∨ y = .issue (encode .tick) ∨ y = .issue (encode (if x.target then .inLow else .inHigh))) →
    ∃ t, runTurns ts s = .next t ∧ (t.client.phase = .pinRd x ∨ t.client.phase = .ovfRd x) ∧
      t.client.ov = s.client.ov ∧ t.run = false ∧ t.ovf = false

/-- R93, under the fairness of R30: every infinite run that begins with a call of `measure`, or inside one, with RUN = 1
and without RESET, reaches DONE or the fault, whatever else the host program wants. That the call's turn takes CLR1 is
DEDUCED (log entry 8), and the phase `faulted` is the model's choice (log entry 7). -/
def Obligations.FairRunsOfMeasureEnd : Prop :=
  ∀ (wants : Nat → Prop) (σ : Nat → Turn) (f : Nat → State), InfiniteRun σ f → CounterFair σ f → HostFair wants σ f →
    (f 0).run = true → ((∃ n, σ 0 = .measure n) ∨ ((f 0).client.phase.active = true ∧ clientOk (f 0))) →
    (∀ n, σ n ≠ .issue (encode .reset)) →
    ∃ n, 0 < n ∧ ((f n).client.phase = .done ∨ (f n).client.phase = .faulted)
end

