-- ==== Sys2Proof/Laws/State.lean ====
section
/-! SUPPORT. What each named update of State leaves in each field: true by rfl, so that no proof unfolds an update. -/

namespace Sys2Proof.Machine

variable (s : State)

section respond
variable (r : Option Response)
@[simp] theorem respond_count : (s.respond r).count = s.count := rfl
@[simp] theorem respond_ovf : (s.respond r).ovf = s.ovf := rfl
@[simp] theorem respond_run : (s.respond r).run = s.run := rfl
@[simp] theorem respond_input : (s.respond r).input = s.input := rfl
@[simp] theorem respond_prev : (s.respond r).prev = s.prev := rfl
@[simp] theorem respond_valid : (s.respond r).valid = s.valid := rfl
@[simp] theorem respond_faults : (s.respond r).faults = s.faults := rfl
@[simp] theorem respond_resp : (s.respond r).resp = r := rfl
@[simp] theorem respond_draws : (s.respond r).draws = s.draws := rfl
@[simp] theorem respond_client : (s.respond r).client = s.client := rfl
@[simp] theorem respond_schedule : (s.respond r).schedule = s.schedule := rfl
@[simp] theorem respond_sinceHost : (s.respond r).sinceHost = s.sinceHost := rfl
@[simp] theorem respond_params : (s.respond r).params = s.params := rfl
end respond

section recordFault
variable (f : FaultRecord)
@[simp] theorem recordFault_count : (s.recordFault f).count = s.count := rfl
@[simp] theorem recordFault_ovf : (s.recordFault f).ovf = s.ovf := rfl
@[simp] theorem recordFault_run : (s.recordFault f).run = s.run := rfl
@[simp] theorem recordFault_input : (s.recordFault f).input = s.input := rfl
@[simp] theorem recordFault_prev : (s.recordFault f).prev = s.prev := rfl
@[simp] theorem recordFault_valid : (s.recordFault f).valid = s.valid := rfl
@[simp] theorem recordFault_faults : (s.recordFault f).faults = s.faults ++ [f] := rfl
@[simp] theorem recordFault_resp : (s.recordFault f).resp = s.resp := rfl
@[simp] theorem recordFault_draws : (s.recordFault f).draws = s.draws := rfl
@[simp] theorem recordFault_client : (s.recordFault f).client = s.client := rfl
@[simp] theorem recordFault_schedule : (s.recordFault f).schedule = s.schedule := rfl
@[simp] theorem recordFault_sinceHost : (s.recordFault f).sinceHost = s.sinceHost := rfl
@[simp] theorem recordFault_params : (s.recordFault f).params = s.params := rfl
end recordFault

section setCount
variable (c : Word)
@[simp] theorem setCount_count : (s.setCount c).count = c := rfl
@[simp] theorem setCount_ovf : (s.setCount c).ovf = s.ovf := rfl
@[simp] theorem setCount_run : (s.setCount c).run = s.run := rfl
@[simp] theorem setCount_input : (s.setCount c).input = s.input := rfl
@[simp] theorem setCount_prev : (s.setCount c).prev = s.prev := rfl
@[simp] theorem setCount_valid : (s.setCount c).valid = s.valid := rfl
@[simp] theorem setCount_faults : (s.setCount c).faults = s.faults := rfl
@[simp] theorem setCount_resp : (s.setCount c).resp = s.resp := rfl
@[simp] theorem setCount_draws : (s.setCount c).draws = s.draws := rfl
@[simp] theorem setCount_client : (s.setCount c).client = s.client := rfl
@[simp] theorem setCount_schedule : (s.setCount c).schedule = s.schedule := rfl
@[simp] theorem setCount_sinceHost : (s.setCount c).sinceHost = s.sinceHost := rfl
@[simp] theorem setCount_params : (s.setCount c).params = s.params := rfl
end setCount

section setOvf
variable (b : Bool)
@[simp] theorem setOvf_count : (s.setOvf b).count = s.count := rfl
@[simp] theorem setOvf_ovf : (s.setOvf b).ovf = b := rfl
@[simp] theorem setOvf_run : (s.setOvf b).run = s.run := rfl
@[simp] theorem setOvf_input : (s.setOvf b).input = s.input := rfl
@[simp] theorem setOvf_prev : (s.setOvf b).prev = s.prev := rfl
@[simp] theorem setOvf_valid : (s.setOvf b).valid = s.valid := rfl
@[simp] theorem setOvf_faults : (s.setOvf b).faults = s.faults := rfl
@[simp] theorem setOvf_resp : (s.setOvf b).resp = s.resp := rfl
@[simp] theorem setOvf_draws : (s.setOvf b).draws = s.draws := rfl
@[simp] theorem setOvf_client : (s.setOvf b).client = s.client := rfl
@[simp] theorem setOvf_schedule : (s.setOvf b).schedule = s.schedule := rfl
@[simp] theorem setOvf_sinceHost : (s.setOvf b).sinceHost = s.sinceHost := rfl
@[simp] theorem setOvf_params : (s.setOvf b).params = s.params := rfl
end setOvf

section setRun
variable (b : Bool)
@[simp] theorem setRun_count : (s.setRun b).count = s.count := rfl
@[simp] theorem setRun_ovf : (s.setRun b).ovf = s.ovf := rfl
@[simp] theorem setRun_run : (s.setRun b).run = b := rfl
@[simp] theorem setRun_input : (s.setRun b).input = s.input := rfl
@[simp] theorem setRun_prev : (s.setRun b).prev = s.prev := rfl
@[simp] theorem setRun_valid : (s.setRun b).valid = s.valid := rfl
@[simp] theorem setRun_faults : (s.setRun b).faults = s.faults := rfl
@[simp] theorem setRun_resp : (s.setRun b).resp = s.resp := rfl
@[simp] theorem setRun_draws : (s.setRun b).draws = s.draws := rfl
@[simp] theorem setRun_client : (s.setRun b).client = s.client := rfl
@[simp] theorem setRun_schedule : (s.setRun b).schedule = s.schedule := rfl
@[simp] theorem setRun_sinceHost : (s.setRun b).sinceHost = s.sinceHost := rfl
@[simp] theorem setRun_params : (s.setRun b).params = s.params := rfl
end setRun

section setInput
variable (b : Bool)
@[simp] theorem setInput_count : (s.setInput b).count = s.count := rfl
@[simp] theorem setInput_ovf : (s.setInput b).ovf = s.ovf := rfl
@[simp] theorem setInput_run : (s.setInput b).run = s.run := rfl
@[simp] theorem setInput_input : (s.setInput b).input = b := rfl
@[simp] theorem setInput_prev : (s.setInput b).prev = s.prev := rfl
@[simp] theorem setInput_valid : (s.setInput b).valid = s.valid := rfl
@[simp] theorem setInput_faults : (s.setInput b).faults = s.faults := rfl
@[simp] theorem setInput_resp : (s.setInput b).resp = s.resp := rfl
@[simp] theorem setInput_draws : (s.setInput b).draws = s.draws := rfl
@[simp] theorem setInput_client : (s.setInput b).client = s.client := rfl
@[simp] theorem setInput_schedule : (s.setInput b).schedule = s.schedule := rfl
@[simp] theorem setInput_sinceHost : (s.setInput b).sinceHost = s.sinceHost := rfl
@[simp] theorem setInput_params : (s.setInput b).params = s.params := rfl
end setInput

section sampleInput
@[simp] theorem sampleInput_count : (s.sampleInput).count = s.count := rfl
@[simp] theorem sampleInput_ovf : (s.sampleInput).ovf = s.ovf := rfl
@[simp] theorem sampleInput_run : (s.sampleInput).run = s.run := rfl
@[simp] theorem sampleInput_input : (s.sampleInput).input = s.input := rfl
@[simp] theorem sampleInput_prev : (s.sampleInput).prev = s.input := rfl
@[simp] theorem sampleInput_valid : (s.sampleInput).valid = true := rfl
@[simp] theorem sampleInput_faults : (s.sampleInput).faults = s.faults := rfl
@[simp] theorem sampleInput_resp : (s.sampleInput).resp = s.resp := rfl
@[simp] theorem sampleInput_draws : (s.sampleInput).draws = s.draws := rfl
@[simp] theorem sampleInput_client : (s.sampleInput).client = s.client := rfl
@[simp] theorem sampleInput_schedule : (s.sampleInput).schedule = s.schedule := rfl
@[simp] theorem sampleInput_sinceHost : (s.sampleInput).sinceHost = s.sinceHost := rfl
@[simp] theorem sampleInput_params : (s.sampleInput).params = s.params := rfl
end sampleInput

section applyReset
@[simp] theorem applyReset_count : (s.applyReset).count = Config.countReset s.draws := rfl
@[simp] theorem applyReset_ovf : (s.applyReset).ovf = Config.ovfReset s.draws := rfl
@[simp] theorem applyReset_run : (s.applyReset).run = false := rfl
@[simp] theorem applyReset_input : (s.applyReset).input = s.input := rfl
@[simp] theorem applyReset_prev : (s.applyReset).prev = Config.prevReset s.draws := rfl
@[simp] theorem applyReset_valid : (s.applyReset).valid = false := rfl
@[simp] theorem applyReset_faults : (s.applyReset).faults = s.faults := rfl
@[simp] theorem applyReset_resp : (s.applyReset).resp = s.resp := rfl
@[simp] theorem applyReset_draws : (s.applyReset).draws = s.draws + 1 := rfl
@[simp] theorem applyReset_client : (s.applyReset).client = s.client := rfl
@[simp] theorem applyReset_schedule : (s.applyReset).schedule = s.schedule := rfl
@[simp] theorem applyReset_sinceHost : (s.applyReset).sinceHost = s.sinceHost := rfl
@[simp] theorem applyReset_params : (s.applyReset).params = s.params := rfl
end applyReset

section setClient
variable (c : Client)
@[simp] theorem setClient_count : (s.setClient c).count = s.count := rfl
@[simp] theorem setClient_ovf : (s.setClient c).ovf = s.ovf := rfl
@[simp] theorem setClient_run : (s.setClient c).run = s.run := rfl
@[simp] theorem setClient_input : (s.setClient c).input = s.input := rfl
@[simp] theorem setClient_prev : (s.setClient c).prev = s.prev := rfl
@[simp] theorem setClient_valid : (s.setClient c).valid = s.valid := rfl
@[simp] theorem setClient_faults : (s.setClient c).faults = s.faults := rfl
@[simp] theorem setClient_resp : (s.setClient c).resp = s.resp := rfl
@[simp] theorem setClient_draws : (s.setClient c).draws = s.draws := rfl
@[simp] theorem setClient_client : (s.setClient c).client = c := rfl
@[simp] theorem setClient_schedule : (s.setClient c).schedule = s.schedule := rfl
@[simp] theorem setClient_sinceHost : (s.setClient c).sinceHost = s.sinceHost := rfl
@[simp] theorem setClient_params : (s.setClient c).params = s.params := rfl
end setClient

section setSchedule
variable (ts : List Turn)
@[simp] theorem setSchedule_count : (s.setSchedule ts).count = s.count := rfl
@[simp] theorem setSchedule_ovf : (s.setSchedule ts).ovf = s.ovf := rfl
@[simp] theorem setSchedule_run : (s.setSchedule ts).run = s.run := rfl
@[simp] theorem setSchedule_input : (s.setSchedule ts).input = s.input := rfl
@[simp] theorem setSchedule_prev : (s.setSchedule ts).prev = s.prev := rfl
@[simp] theorem setSchedule_valid : (s.setSchedule ts).valid = s.valid := rfl
@[simp] theorem setSchedule_faults : (s.setSchedule ts).faults = s.faults := rfl
@[simp] theorem setSchedule_resp : (s.setSchedule ts).resp = s.resp := rfl
@[simp] theorem setSchedule_draws : (s.setSchedule ts).draws = s.draws := rfl
@[simp] theorem setSchedule_client : (s.setSchedule ts).client = s.client := rfl
@[simp] theorem setSchedule_schedule : (s.setSchedule ts).schedule = ts := rfl
@[simp] theorem setSchedule_sinceHost : (s.setSchedule ts).sinceHost = s.sinceHost := rfl
@[simp] theorem setSchedule_params : (s.setSchedule ts).params = s.params := rfl
end setSchedule

section setSinceHost
variable (g : Option Nat)
@[simp] theorem setSinceHost_count : (s.setSinceHost g).count = s.count := rfl
@[simp] theorem setSinceHost_ovf : (s.setSinceHost g).ovf = s.ovf := rfl
@[simp] theorem setSinceHost_run : (s.setSinceHost g).run = s.run := rfl
@[simp] theorem setSinceHost_input : (s.setSinceHost g).input = s.input := rfl
@[simp] theorem setSinceHost_prev : (s.setSinceHost g).prev = s.prev := rfl
@[simp] theorem setSinceHost_valid : (s.setSinceHost g).valid = s.valid := rfl
@[simp] theorem setSinceHost_faults : (s.setSinceHost g).faults = s.faults := rfl
@[simp] theorem setSinceHost_resp : (s.setSinceHost g).resp = s.resp := rfl
@[simp] theorem setSinceHost_draws : (s.setSinceHost g).draws = s.draws := rfl
@[simp] theorem setSinceHost_client : (s.setSinceHost g).client = s.client := rfl
@[simp] theorem setSinceHost_schedule : (s.setSinceHost g).schedule = s.schedule := rfl
@[simp] theorem setSinceHost_sinceHost : (s.setSinceHost g).sinceHost = g := rfl
@[simp] theorem setSinceHost_params : (s.setSinceHost g).params = s.params := rfl
end setSinceHost

section advanceClient
@[simp] theorem advanceClient_count : (s.advanceClient).count = s.count := rfl
@[simp] theorem advanceClient_ovf : (s.advanceClient).ovf = s.ovf := rfl
@[simp] theorem advanceClient_run : (s.advanceClient).run = s.run := rfl
@[simp] theorem advanceClient_input : (s.advanceClient).input = s.input := rfl
@[simp] theorem advanceClient_prev : (s.advanceClient).prev = s.prev := rfl
@[simp] theorem advanceClient_valid : (s.advanceClient).valid = s.valid := rfl
@[simp] theorem advanceClient_faults : (s.advanceClient).faults = s.faults ++ s.client.underflow (Response.dataOf s.resp) := rfl
@[simp] theorem advanceClient_resp : (s.advanceClient).resp = s.resp := rfl
@[simp] theorem advanceClient_draws : (s.advanceClient).draws = s.draws := rfl
@[simp] theorem advanceClient_client : (s.advanceClient).client = s.client.advance s.params (Response.dataOf s.resp) := rfl
@[simp] theorem advanceClient_schedule : (s.advanceClient).schedule = s.schedule := rfl
@[simp] theorem advanceClient_sinceHost : (s.advanceClient).sinceHost = s.sinceHost := rfl
@[simp] theorem advanceClient_params : (s.advanceClient).params = s.params := rfl
end advanceClient

end Sys2Proof.Machine
end

