-- ==== Sys2Proof/Laws/Ops.lean ====
section
/-! SUPPORT. What each shared operation answers, and what the read data and the labels hold bit by bit. -/

theorem Sys2Proof.Config.tickRateHz_pos : 0 < Sys2Proof.Config.tickRateHz := by
  unfold Sys2Proof.Config.tickRateHz; positivity

namespace Sys2Proof.Machine

theorem answerRead_next {v : Word} {s t : State} : answerRead v s = .next t ↔ t = s.respond (some (.okData v)) := by
  simp [answerRead, eq_comm]

theorem answerWrite_next {s t : State} : answerWrite s = .next t ↔ t = s.respond (some .ok) := by
  simp [answerWrite, eq_comm]

theorem endEvent_next {s t : State} : endEvent s = .next t ↔ t = s.respond none := by
  simp [endEvent, eq_comm]

theorem raiseBusError_next {w : StepWords} {c : Cause} {s t : State} :
    raiseBusError w c s = .next t ↔
      t = (s.recordFault (.busError w.label (labelOffset w.label) w.data c)).respond (some (.err c)) := by
  simp [raiseBusError, eq_comm]

@[simp] theorem bit0_zext16 (b : Bool) : bit0 (zext16 b) = b := by
  cases b <;> decide

@[simp] theorem zext16_true : zext16 true = 0x0001#16 := by decide

@[simp] theorem zext16_false : zext16 false = 0x0000#16 := by decide

theorem zext16_injective {a b : Bool} (h : zext16 a = zext16 b) : a = b := by
  have := congrArg bit0 h
  simpa using this

theorem edgeData_level (f r c : Bool) : (edgeData f r c).getLsbD 0 = c := by
  cases f <;> cases r <;> cases c <;> decide

theorem edgeData_rise (f r c : Bool) : (edgeData f r c).getLsbD 1 = r := by
  cases f <;> cases r <;> cases c <;> decide

theorem edgeData_fall (f r c : Bool) : (edgeData f r c).getLsbD 2 = f := by
  cases f <;> cases r <;> cases c <;> decide

@[simp] theorem labelOffset_busLabel (w : Bool) (wd : Width) (a : Offset) : labelOffset (busLabel w wd a) = a := by
  cases w <;> cases wd <;> revert a <;> decide

@[simp] theorem labelClass_busLabel_read (wd : Width) (a : Offset) : labelClass (busLabel false wd a) = 0b00#2 := by
  cases wd <;> revert a <;> decide

@[simp] theorem labelClass_busLabel_write (wd : Width) (a : Offset) : labelClass (busLabel true wd a) = 0b01#2 := by
  cases wd <;> revert a <;> decide

@[simp] theorem reserved_busLabel (w : Bool) (wd : Width) (a : Offset) : (busLabel w wd a)[5] = false := by
  cases w <;> cases wd <;> revert a <;> decide

@[simp] theorem size_busLabel_byte (w : Bool) (a : Offset) : (busLabel w .byte a)[4] = false := by
  cases w <;> revert a <;> decide

@[simp] theorem size_busLabel_word (w : Bool) (a : Offset) : (busLabel w .word a)[4] = true := by
  cases w <;> revert a <;> decide

/-- The data a client sees in the answer of a read. -/
@[simp] theorem dataOf_okData (v : Word) : Response.dataOf (some (.okData v)) = v := rfl

@[simp] theorem dataOf_ok : Response.dataOf (some .ok) = 0#16 := rfl

end Sys2Proof.Machine
end

