-- ==== Sys2Proof/Laws/Exec.lean ====
section
/-! SUPPORT. What one operation and one turn can do, said once: every operation answers a next state and leaves the
client, the schedule and the parameters alone; every turn that answers a next state is one of the cases listed. -/

namespace Sys2Proof.Machine

/-- Every operation answers a next state. -/
theorem exec_answers (i : Instr) (s : State) : ∃ t, exec i s = .next t := by
  cases i <;> first
    | exact ⟨_, rfl⟩
    | (simp only [exec, execTick]; split <;> exact ⟨_, rfl⟩)

/-- No operation touches the client, the schedule, the parameters or the gap counter. -/
theorem exec_keeps_rest {i : Instr} {s t : State} (h : exec i s = .next t) :
    t.client = s.client ∧ t.schedule = s.schedule ∧ t.params = s.params ∧ t.sinceHost = s.sinceHost := by
  cases i
  case tick =>
    simp only [exec, execTick] at h
    split at h <;> (obtain rfl := endEvent_next.mp h; simp)
  all_goals (cases h; exact ⟨rfl, rfl, rfl, rfl⟩)

theorem exec_keeps_client {i : Instr} {s t : State} (h : exec i s = .next t) : t.client = s.client :=
  (exec_keeps_rest h).1

theorem exec_keeps_schedule {i : Instr} {s t : State} (h : exec i s = .next t) : t.schedule = s.schedule :=
  (exec_keeps_rest h).2.1

theorem exec_keeps_params {i : Instr} {s t : State} (h : exec i s = .next t) : t.params = s.params :=
  (exec_keeps_rest h).2.2.1

theorem exec_keeps_sinceHost {i : Instr} {s t : State} (h : exec i s = .next t) : t.sinceHost = s.sinceHost :=
  (exec_keeps_rest h).2.2.2

/-- An operation that is taken is taken by exec, and the gap is counted. -/
theorem runInstr_next {i : Instr} {s u : State} :
    runInstr i s = .next u ↔ ∃ t, exec i s = .next t ∧ u = t.setSinceHost (gapAfter i s.sinceHost) := by
  obtain ⟨t, ht⟩ := exec_answers i s
  simp only [runInstr, ht, exec_keeps_sinceHost ht, Host.Outcome.next.injEq]
  constructor
  · rintro rfl; exact ⟨t, rfl, rfl⟩
  · rintro ⟨t', rfl, rfl⟩; rfl

/-- When a label is issued, what it does: it decodes, a bus label finds the host free and its gap admitted, and the
operation is taken. -/
theorem issueTurn_next {w : StepWords} {s u : State} :
    issueTurn w s = .next u ↔
      ∃ i, decode w = .ok i ∧
        (agentOf i = .host → s.client.phase.active = false ∧ gapAdmits s.params s.sinceHost = true) ∧
        runInstr i s = .next u := by
  unfold issueTurn
  cases hd : decode w with
  | error e => simp
  | ok i =>
    by_cases hh : agentOf i = .host <;> by_cases ha : s.client.phase.active = true <;>
      by_cases hg : gapAdmits s.params s.sinceHost = true <;> simp_all

/-- When the client moves, what it does: its phase's operation is taken, and the client advances on the answer. -/
theorem clientTurn_next {s u : State} :
    clientTurn s = .next u ↔
      ∃ i t, s.client.phase.operation = some i ∧ s.params.measBound ≤ Config.measBoundMax ∧
        gapAdmits s.params s.sinceHost = true ∧ runInstr i s = .next t ∧ u = t.advanceClient := by
  unfold clientTurn
  cases ho : s.client.phase.operation with
  | none => simp
  | some i =>
    cases hr : runInstr i s <;> by_cases hm : Config.measBoundMax < s.params.measBound <;>
      by_cases hg : gapAdmits s.params s.sinceHost = true <;> simp [hr, hm, hg, Nat.not_le.mpr, Nat.not_lt.mp, eq_comm]

/-- When `measure` is called, what it does: the host is free and N is positive, and the client takes CLR1. -/
theorem measureTurn_next {n : Word} {s u : State} :
    measureTurn n s = .next u ↔
      s.client.phase.active = false ∧ n ≠ 0#16 ∧ clientTurn (s.setClient (s.client.enter n)) = .next u := by
  unfold measureTurn
  by_cases ha : s.client.phase.active = true <;> by_cases hn : n = 0#16 <;> simp_all

/-- A step that answers a next state took the first turn of the schedule. -/
theorem step_next {s u : State} :
    step s = .next u ↔ ∃ t rest, s.schedule = t :: rest ∧ takeTurn t (s.setSchedule rest) = .next u := by
  unfold step takeNextTurn
  cases h : s.schedule <;> simp

/-- The client's end: the three outcomes of steps 6 and 7. -/
theorem Client.finish_cases (c : Client) :
    (c.endv < c.start ∧ c.ov = 0 ∧ c.finish = { c with phase := .faulted }) ∨
    (∃ m, c.endv < c.start ∧ c.ov = m + 1 ∧
      c.finish = { c with ov := m, result := elapsed m c.start c.endv, phase := .done }) ∨
    (¬ c.endv < c.start ∧ c.finish = { c with result := elapsed c.ov c.start c.endv, phase := .done }) := by
  unfold Client.finish
  by_cases h : c.endv < c.start
  · cases hm : c.ov with
    | zero => exact .inl ⟨h, rfl, by simp [h]⟩
    | succ m => exact .inr (.inl ⟨m, h, rfl, by simp [h]⟩)
  · exact .inr (.inr ⟨h, by simp [h]⟩)

/-- The client's move records nothing, or one ElapsedUnderflow. -/
theorem Client.underflow_cases (d : Word) (c : Client) :
    c.underflow d = [] ∨ c.underflow d = [.elapsedUnderflow c.start d] := by
  unfold Client.underflow
  split
  · split
    · exact .inr rfl
    · exact .inl rfl
  · exact .inl rfl

/-- Inside `measure` the one host turn that can be taken is the client's (R100). -/
theorem hostTurn_inside_measure {t : Turn} {s u : State} (ha : s.client.phase.active = true)
    (h : takeTurn t s = .next u) (hh : Safety.isHostTurn t = true) : t = .client := by
  cases t with
  | client => rfl
  | measure n =>
    have := (measureTurn_next.mp h).1
    simp_all
  | issue w =>
    obtain ⟨i, hd, hf, -⟩ := issueTurn_next.mp h
    have hi : agentOf i = .host := by simpa [Safety.isHostTurn, hd] using hh
    have := (hf hi).1
    simp_all

end Sys2Proof.Machine
end

