-- ==== Sys2Proof/Laws/PerInstr.lean ====
section
/-! SUPPORT. The one family of statements made per instruction: an operation's words carry a data operand exactly when
their class is bus write (R44, R52). -/

namespace Sys2Proof.Laws.DataIffWrite

open Sys2Proof.Machine

/-- The words of `i` carry D exactly when the label's class is bus write. -/
def Statement (i : Instr) : Prop := (encode i).data.isSome = labelCarriesData (encode i).label

theorem rdCnt : Statement (.rdCnt) := by
  simp [Statement, encode, readWords, labelCarriesData]

theorem rdStat : Statement (.rdStat) := by
  simp [Statement, encode, readWords, labelCarriesData]

theorem rdCtrl : Statement (.rdCtrl) := by
  simp [Statement, encode, readWords, labelCarriesData]

theorem rdPin : Statement (.rdPin) := by
  simp [Statement, encode, readWords, labelCarriesData]

theorem rdEdge : Statement (.rdEdge) := by
  simp [Statement, encode, readWords, labelCarriesData]

theorem rdUnmappedA : Statement (.rdUnmappedA) := by
  simp [Statement, encode, readWords, labelCarriesData]

theorem rdUnmappedC : Statement (.rdUnmappedC) := by
  simp [Statement, encode, readWords, labelCarriesData]

theorem rdUnmappedE : Statement (.rdUnmappedE) := by
  simp [Statement, encode, readWords, labelCarriesData]

theorem rdOdd (a : Offset) : Statement (.rdOdd a) := by
  simp [Statement, encode, readWords, labelCarriesData]

theorem rdByte (a : Offset) : Statement (.rdByte a) := by
  simp [Statement, encode, readWords, labelCarriesData]

theorem wrCnt (d : Word) : Statement (.wrCnt d) := by
  simp [Statement, encode, writeWords, labelCarriesData]

theorem wrStat (d : Word) : Statement (.wrStat d) := by
  simp [Statement, encode, writeWords, labelCarriesData]

theorem wrCtrl (d : Word) : Statement (.wrCtrl d) := by
  simp [Statement, encode, writeWords, labelCarriesData]

theorem wrPin (d : Word) : Statement (.wrPin d) := by
  simp [Statement, encode, writeWords, labelCarriesData]

theorem wrEdge (d : Word) : Statement (.wrEdge d) := by
  simp [Statement, encode, writeWords, labelCarriesData]

theorem wrUnmappedA (d : Word) : Statement (.wrUnmappedA d) := by
  simp [Statement, encode, writeWords, labelCarriesData]

theorem wrUnmappedC (d : Word) : Statement (.wrUnmappedC d) := by
  simp [Statement, encode, writeWords, labelCarriesData]

theorem wrUnmappedE (d : Word) : Statement (.wrUnmappedE d) := by
  simp [Statement, encode, writeWords, labelCarriesData]

theorem wrOdd (a : Offset) (d : Word) : Statement (.wrOdd a d) := by
  simp [Statement, encode, writeWords, labelCarriesData]

theorem wrByte (a : Offset) (d : Word) : Statement (.wrByte a d) := by
  simp [Statement, encode, writeWords, labelCarriesData]

theorem tick : Statement .tick := by
  rfl

theorem inLow : Statement .inLow := by
  rfl

theorem inHigh : Statement .inHigh := by
  rfl

theorem reset : Statement .reset := by
  rfl

end Sys2Proof.Laws.DataIffWrite
end

