-- ==== Sys2Proof/Tests/Slice0.lean ====
section
/-! SUPPORT. Tests of one step each, with the values of spec/95_test_vectors.md, and for every obligation that has
hypotheses a concrete state and operands that meet them. -/

namespace Sys2Proof.Tests

open Sys2Proof.Machine Sys2Proof.Safety

/-- The outcome is a next state that passes the test. -/
def gives (o : Host.Outcome State Fault Refusal) (p : State → Bool) : Bool :=
  match o with
  | .next t => p t
  | .fault _ => false
  | .refused _ => false

theorem exists_of_gives {o : Host.Outcome State Fault Refusal} {p : State → Bool} (h : gives o p = true) :
    ∃ t, o = .next t ∧ p t = true := by
  cases o with
  | next t => exact ⟨t, rfl, h⟩
  | fault r => cases h
  | refused r => cases h

/-- A running block with the host free. -/
def base : State :=
  { State.powerOn 0x0100#16 true false false with run := true }

/-- `base` with the client of `measure(1)` in phase `p`, its other variables at 0. -/
def inPhase (p : Phase) : State := { base with ovf := false, client := { Client.initial with phase := p, n := 1#16 } }

/-- `inPhase` with one client turn scheduled. -/
def atPhase (p : Phase) : State := { inPhase p with schedule := [.client] }

/-- The counter's turn. -/
def tickTurn : Turn := .issue (encode .tick)

/-- The environment drives the pin high. -/
def highTurn : Turn := .issue (encode .inHigh)

/-- The environment drives the pin low. -/
def lowTurn : Turn := .issue (encode .inLow)

/-! ## WellFormed: the terms each check refuses -/

theorem test_wf_rdOdd_refuses_even : Instr.wf (.rdOdd 0x2#4) = false := by decide
theorem test_wf_wrOdd_refuses_even : Instr.wf (.wrOdd 0xE#4 0x0001#16) = false := by decide
theorem test_wf_rdOdd_takes_odd : Instr.wf (.rdOdd 0xF#4) = true := by decide
theorem test_wf_wrOdd_takes_odd : Instr.wf (.wrOdd 0x1#4 0x0001#16) = true := by decide

/-! ## Decoding: a label of each constructor, written out from R45, R47 and R55 -/

theorem test_decode_rdCnt : decode ⟨0b00010000#8, none⟩ = .ok .rdCnt := by decide
theorem test_decode_rdStat : decode ⟨0b00010010#8, none⟩ = .ok .rdStat := by decide
theorem test_decode_rdCtrl : decode ⟨0b00010100#8, none⟩ = .ok .rdCtrl := by decide
theorem test_decode_rdPin : decode ⟨0b00010110#8, none⟩ = .ok .rdPin := by decide
theorem test_decode_rdEdge : decode ⟨0b00011000#8, none⟩ = .ok .rdEdge := by decide
theorem test_decode_rdUnmappedA : decode ⟨0b00011010#8, none⟩ = .ok .rdUnmappedA := by decide
theorem test_decode_rdUnmappedC : decode ⟨0b00011100#8, none⟩ = .ok .rdUnmappedC := by decide
theorem test_decode_rdUnmappedE : decode ⟨0b00011110#8, none⟩ = .ok .rdUnmappedE := by decide
theorem test_decode_rdOdd : decode ⟨0b00011011#8, none⟩ = .ok (.rdOdd 0xB#4) := by decide
theorem test_decode_rdByte : decode ⟨0b00001110#8, none⟩ = .ok (.rdByte 0xE#4) := by decide
theorem test_decode_wrCnt : decode ⟨0b01010000#8, some 0x1234#16⟩ = .ok (.wrCnt 0x1234#16) := by decide
theorem test_decode_wrStat : decode ⟨0b01010010#8, some 0xFFFE#16⟩ = .ok (.wrStat 0xFFFE#16) := by decide
theorem test_decode_wrCtrl : decode ⟨0b01010100#8, some 0x8001#16⟩ = .ok (.wrCtrl 0x8001#16) := by decide
theorem test_decode_wrPin : decode ⟨0b01010110#8, some 0x0001#16⟩ = .ok (.wrPin 0x0001#16) := by decide
theorem test_decode_wrEdge : decode ⟨0b01011000#8, some 0x0007#16⟩ = .ok (.wrEdge 0x0007#16) := by decide
theorem test_decode_wrUnmappedA : decode ⟨0b01011010#8, some 0x0002#16⟩ = .ok (.wrUnmappedA 0x0002#16) := by decide
theorem test_decode_wrUnmappedC : decode ⟨0b01011100#8, some 0x0001#16⟩ = .ok (.wrUnmappedC 0x0001#16) := by decide
theorem test_decode_wrUnmappedE : decode ⟨0b01011110#8, some 0x0003#16⟩ = .ok (.wrUnmappedE 0x0003#16) := by decide
theorem test_decode_wrOdd : decode ⟨0b01010101#8, some 0x00FF#16⟩ = .ok (.wrOdd 0x5#4 0x00FF#16) := by decide
theorem test_decode_wrByte : decode ⟨0b01000011#8, some 0x0001#16⟩ = .ok (.wrByte 0x3#4 0x0001#16) := by decide
theorem test_decode_tick : decode ⟨0b10000000#8, none⟩ = .ok .tick := by decide
theorem test_decode_inLow : decode ⟨0b10000001#8, none⟩ = .ok .inLow := by decide
theorem test_decode_inHigh : decode ⟨0b10000010#8, none⟩ = .ok .inHigh := by decide
theorem test_decode_reset : decode ⟨0b10000011#8, none⟩ = .ok .reset := by decide

/-- Section 2.5 of the vectors: the reserved labels at the edges of R50's ranges. -/
theorem test_decode_reserved_edges :
    [0x20#8, 0x3F#8].map (fun op => decode ⟨op, none⟩) = [.error .reservedBusBit, .error .reservedBusBit] ∧
    [0x60#8, 0x7F#8].map (fun op => decode ⟨op, some 0#16⟩) = [.error .reservedBusBit, .error .reservedBusBit] ∧
    [0x84#8, 0x87#8, 0x88#8, 0xB8#8, 0xBF#8].map (fun op => decode ⟨op, none⟩) =
      List.replicate 5 (.error .reservedEvent) ∧
    [0xC0#8, 0xFF#8].map (fun op => decode ⟨op, none⟩) = [.error .reservedClass, .error .reservedClass] := by decide

/-- R44, R46: a write needs its D and nothing else has one. -/
theorem test_decode_data_must_match :
    decode ⟨0x52#8, none⟩ = .error .missingData ∧ decode ⟨0x10#8, some 0#16⟩ = .error .strayData ∧
    decode ⟨0x80#8, some 0#16⟩ = .error .strayData := by decide

/-- The numbering of the table: the label in bits 7:0, D in bits 23:8, and every bit above nbits 0. -/
theorem test_decodeTableWord :
    decodeTableWord 24 0x800154 = some (.wrCtrl 0x8001#16) ∧ decodeTableWord 8 0x54 = some (.wrCtrl 0#16) ∧
    decodeTableWord 8 0x83 = some .reset ∧ decodeTableWord 8 0x20 = none := by decide

/-- From reset, the placed label of every row of the table runs. -/
theorem test_placed_labels_run_from_reset :
    [0x10, 0x12, 0x14, 0x16, 0x18, 0x1A, 0x1C, 0x1E, 0x11, 0x00, 0x50, 0x52, 0x54, 0x56, 0x58, 0x5A, 0x5C, 0x5E, 0x51,
      0x40, 0x80, 0x81, 0x82, 0x83].all
      (fun w => gives (step (State.reset.withFetchWord 8 w)) (fun t => t.schedule == [])) = true := by decide

/-- R53, R54: lines of programs P1 and P6 as they are listed, with a comment and a result. -/
theorem test_assembleLine :
    assembleLine ['W', 'R', '.', 'W', ' ', 'S', 'T', 'A', 'T', ',', ' ', '#', '0', 'x', '0', '0', '0', '1'] =
      some [⟨0x52#8, some 0x0001#16⟩] ∧
    assembleLine ['R', 'D', '.', 'W', ' ', 'C', 'N', 'T', ' ', '-', '>', ' ', '0', 'x', '1'] = some [⟨0x10#8, none⟩] ∧
    assembleLine ['W', 'R', '.', 'B', ' ', '0', 'x', '3', ',', ' ', '#', '0', 'x', '0', '1'] =
      some [⟨0x43#8, some 0x0001#16⟩] ∧
    assembleLine ['T', 'I', 'C', 'K', '*', '3', ' ', ';', 'c'] = some (List.replicate 3 ⟨0x80#8, none⟩) ∧
    assembleLine ['S', 'T', 'A', 'R', 'T'] = some [⟨0x54#8, some 0x0001#16⟩] ∧
    assembleLine ['W', 'R', '.', 'B', ' ', '0', 'x', '3', ',', ' ', '#', '0', 'x', '1', '0', '0'] = none := by decide

/-- R9's literals, with the model's choices of log entry 23: lower-case digits, and `_` first, last and doubled. -/
theorem test_readLiteral :
    readLiteral ['0', 'x', 'b', 'E'] = some 0xBE ∧
    readLiteral ['0', 'b', '_', '1', '_', '_', '0', '_'] = some 2 ∧ readLiteral ['0', 'b', '_'] = none ∧
    readLiteral ['0', 'x', '1', '_', '0'] = none := by decide

/-! ## One step each: the vectors of section 2 -/

/-- VT1. -/
theorem test_tick_counts :
    gives (exec .tick { base with count := 0x1234#16, ovf := false })
      (fun t => t.count == 0x1235#16 && t.ovf == false) = true := by decide
/-- VT2 and VT6: a wrap sets OVF, and with RUN = 0 there is none. -/
theorem test_tick_wraps :
    gives (exec .tick { base with count := 0xFFFF#16, ovf := false })
      (fun t => t.count == 0x0000#16 && t.ovf == true) = true ∧
    gives (exec .tick { base with count := 0xFFFF#16, ovf := false, run := false })
      (fun t => t.count == 0xFFFF#16 && t.ovf == false) = true := by decide
/-- VA1. -/
theorem test_rdCnt :
    gives (exec .rdCnt { base with count := 0xBEEF#16 }) (fun t => t.resp == some (.okData 0xBEEF#16)) = true := by decide
/-- VA4. -/
theorem test_wrCnt_ignored :
    gives (exec (.wrCnt 0xFFFF#16) { base with count := 0x0005#16 })
      (fun t => t.count == 0x0005#16 && t.resp == some .ok) = true := by decide
/-- VA5. -/
theorem test_rdStat_keeps_ovf :
    gives (exec .rdStat base) (fun t => t.resp == some (.okData 0x0001#16) && t.ovf == true) = true := by decide
/-- VA9. -/
theorem test_wrStat_ignores_high_bits :
    gives (exec (.wrStat 0xFFFE#16) base) (fun t => t.ovf == true) = true := by decide
/-- VA12. -/
theorem test_wrStat_clears :
    gives (exec (.wrStat 0x0001#16) { base with count := 0x1234#16 })
      (fun t => t.ovf == false && t.count == 0x1234#16) = true := by decide
/-- VA13, VA14. -/
theorem test_rdCtrl :
    gives (exec .rdCtrl { base with run := false }) (fun t => t.resp == some (.okData 0x0000#16)) = true ∧
    gives (exec .rdCtrl base) (fun t => t.resp == some (.okData 0x0001#16)) = true := by decide
/-- VA16. -/
theorem test_wrCtrl_cannot_stop : gives (exec (.wrCtrl 0x0000#16) base) (fun t => t.run == true) = true := by decide
/-- VA17, VA18. -/
theorem test_wrCtrl_looks_at_bit_zero :
    gives (exec (.wrCtrl 0xFFFE#16) { base with run := false }) (fun t => t.run == false) = true ∧
    gives (exec (.wrCtrl 0x8001#16) { base with run := false }) (fun t => t.run == true) = true := by decide
/-- VI1. -/
theorem test_inLow : gives (exec .inLow { base with input := true }) (fun t => t.input == false) = true := by decide
/-- VI3. -/
theorem test_inHigh : gives (exec .inHigh base) (fun t => t.input == true && t.prev == false) = true := by decide
/-- VI5. -/
theorem test_rdPin :
    gives (exec .rdPin { base with input := true, valid := true })
      (fun t => t.resp == some (.okData 0x0001#16) && t.prev == false && t.valid == true) = true := by decide
/-- VI7. -/
theorem test_wrPin_ignored :
    gives (exec (.wrPin 0x0001#16) base) (fun t => t.input == false && t.resp == some .ok) = true := by decide
/-- VE1 to VE4: no edge while VALID = 0. -/
theorem test_rdEdge_first :
    gives (exec .rdEdge { base with prev := true }) (fun t => t.resp == some (.okData 0x0000#16) && !t.prev && t.valid)
      = true ∧
    gives (exec .rdEdge { base with input := true }) (fun t => t.resp == some (.okData 0x0001#16) && t.prev && t.valid)
      = true := by decide
/-- VE6, VE7, VE8. -/
theorem test_rdEdge_edges :
    gives (exec .rdEdge { base with valid := true, input := true }) (fun t => t.resp == some (.okData 0x0003#16) && t.prev)
      = true ∧
    gives (exec .rdEdge { base with valid := true, prev := true })
      (fun t => t.resp == some (.okData 0x0004#16) && !t.prev) = true ∧
    gives (exec .rdEdge { base with valid := true, prev := true, input := true })
      (fun t => t.resp == some (.okData 0x0001#16)) = true := by decide
/-- VE9. -/
theorem test_wrEdge_ignored :
    gives (exec (.wrEdge 0x0000#16) { base with valid := true, prev := true }) (fun t => t.prev && t.valid) = true := by
  decide
/-- VX1. -/
theorem test_rdByte :
    gives (exec (.rdByte 0x0#4) base)
      (fun t => t.resp == some (.err .width) && t.faults == [.busError 0x00#8 0x0#4 none .width]) = true := by decide
/-- VX4. -/
theorem test_wrByte :
    gives (exec (.wrByte 0x3#4 0x0001#16) base)
      (fun t => t.resp == some (.err .width) && t.faults == [.busError 0x43#8 0x3#4 (some 0x0001#16) .width]) = true := by
  decide
/-- R105's labels, on a read. -/
theorem test_rdOdd :
    gives (exec (.rdOdd 0xF#4) base)
      (fun t => t.resp == some (.err .align) && t.faults == [.busError 0x1F#8 0xF#4 none .align]) = true := by decide
/-- VX2. -/
theorem test_wrOdd :
    gives (exec (.wrOdd 0x3#4 0x0001#16) base)
      (fun t => t.ovf && t.faults == [.busError 0x53#8 0x3#4 (some 0x0001#16) .align]) = true := by decide
/-- VX3. -/
theorem test_rdUnmappedA :
    gives (exec .rdUnmappedA base)
      (fun t => t.resp == some (.err .unmapped) && t.faults == [.busError 0x1A#8 0xA#4 none .unmapped]) = true := by decide
/-- R106's labels. -/
theorem test_rdUnmappedCE :
    gives (exec .rdUnmappedC base) (fun t => t.faults == [.busError 0x1C#8 0xC#4 none .unmapped]) = true ∧
    gives (exec .rdUnmappedE base) (fun t => t.faults == [.busError 0x1E#8 0xE#4 none .unmapped]) = true := by decide
/-- VX5. -/
theorem test_wrUnmappedC :
    gives (exec (.wrUnmappedC 0x0001#16) base)
      (fun t => t.ovf && t.faults == [.busError 0x5C#8 0xC#4 (some 0x0001#16) .unmapped]) = true := by decide
/-- R106's labels. -/
theorem test_wrUnmappedAE :
    gives (exec (.wrUnmappedA 0x0000#16) base)
      (fun t => t.faults == [.busError 0x5A#8 0xA#4 (some 0x0000#16) .unmapped]) = true ∧
    gives (exec (.wrUnmappedE 0x0000#16) base)
      (fun t => t.faults == [.busError 0x5E#8 0xE#4 (some 0x0000#16) .unmapped]) = true := by decide
/-- VZ1. -/
theorem test_reset :
    gives (exec .reset { base with input := true, valid := true, faults := [.elapsedUnderflow 100#16 99#16] })
      (fun t => !t.run && t.input && !t.valid && t.faults == [.elapsedUnderflow 100#16 99#16]) = true := by decide

/-! ## The reference client: vectors of section 2.8 -/

/-- A client at SNAP_END with these values. -/
def endingAt (ov : Nat) (start : Word) (count : Word) : State :=
  { atPhase .snapEnd with
    count := count, client := { Client.initial with phase := .snapEnd, n := 1#16, k := 1#16, ov := ov, start := start } }

/-- VF1, VF3, VF4, VF8, VF9, VF10. -/
theorem test_elapsed :
    gives (step (endingAt 0 100#16 150#16)) (fun t => observe t == some 50#32) = true ∧
    gives (step (endingAt 1 100#16 100#16)) (fun t => observe t == some 65536#32) = true ∧
    gives (step (endingAt 1 100#16 99#16)) (fun t => observe t == some 65535#32) = true ∧
    gives (step (endingAt 25 65530#16 27130#16)) (fun t => observe t == some 1600000#32) = true ∧
    gives (step (endingAt 1024 0#16 65535#16)) (fun t => observe t == some 67174399#32) = true ∧
    gives (step (endingAt 1024 65535#16 0#16)) (fun t => observe t == some 67043329#32) = true := by decide
/-- VF5. -/
theorem test_underflow :
    gives (step (endingAt 0 100#16 99#16))
      (fun t => t.faults == [.elapsedUnderflow 100#16 99#16] && observe t == none && runEnded t) = true := by decide
/-- VF12, VF13: the fifth observation goes on and the sixth aborts with 0. -/
theorem test_sync_bound :
    gives (clientTurn { inPhase (.clr .sl) with client := { (inPhase (.clr .sl)).client with ov := 4 } })
      (fun t => t.client.phase == .pinRd .sl && t.client.ov == 5) = true ∧
    gives (clientTurn { inPhase (.clr .sl) with client := { (inPhase (.clr .sl)).client with ov := 5 } })
      (fun t => observe t == some 0#32) = true := by decide
/-- Steps 17 to 26 of program P4, from its state after step 16 with one of its ten ticks left before the wrap: the
result is the number of ticks taken. -/
theorem test_measure_one_period :
    gives (runTurns [.client, .client, .client, tickTurn, tickTurn, .client, .client, .client, highTurn, .client, .client]
      { inPhase (.pinRd .ml) with
        count := 0xFFFF#16, client := { (inPhase (.pinRd .ml)).client with start := 0xFFFF#16 } })
      (fun t => observe t == some 2#32) = true := by decide

/-! ## Witnesses: the hypotheses of each obligation that has some, met together -/

theorem witness_DecodeReadsBackEveryEncoding :
    Instr.wf (.rdOdd 0x1#4) = true ∧ Instr.wf (.wrOdd 0xF#4 0xFFFF#16) = true ∧ Instr.wf .tick = true := by decide

theorem witness_EncodeRestoresDecodedWords :
    decode ⟨0x5F#8, some 0xFFFF#16⟩ = .ok (.wrOdd 0xF#4 0xFFFF#16) ∧ decode ⟨0x83#8, none⟩ = .ok .reset := by decide

theorem witness_ReservedLabelsAreRefusedAtDecode :
    ([0x20#8, 0x3F#8, 0x60#8, 0x7F#8, 0x84#8, 0xBF#8, 0xC0#8, 0xFF#8].all reservedLabel) = true ∧
    ({ base with schedule := [.issue ⟨0x25#8, none⟩] } : State).schedule = .issue ⟨0x25#8, none⟩ :: [] := by decide

theorem witness_WindowAddressesReachTheirOffsets_outside :
    Config.frcBase + 16 < Config.frcBase ∨ Config.frcBase + 15 < Config.frcBase + 16 := .inr (by omega)

theorem witness_AssemblerLinesGiveTheirLabels_wide : (65536 : Nat) ≤ 65536 := by decide

theorem witness_StepRunsTheIssuedOperation_host :
    ({ base with schedule := [.issue ⟨0x10#8, none⟩] } : State).schedule = .issue ⟨0x10#8, none⟩ :: [] ∧
    decode ⟨0x10#8, none⟩ = .ok .rdCnt ∧
    (agentOf .rdCnt = .host → base.client.phase.active = false ∧ gapAdmits base.params base.sinceHost = true) := by decide

theorem witness_StepRunsTheIssuedOperation_event :
    ({ atPhase .clr1 with schedule := [tickTurn] } : State).schedule = .issue (encode .tick) :: [] ∧
    decode (encode .tick) = .ok .tick ∧
    (agentOf .tick = .host → (atPhase .clr1).client.phase.active = false ∧
      gapAdmits (atPhase .clr1).params (atPhase .clr1).sinceHost = true) := by decide

theorem witness_StepRunsTheClientsOperation :
    (atPhase (.pinRd .sl)).schedule = .client :: [] ∧ (atPhase (.pinRd .sl)).client.phase.operation = some .rdPin ∧
    (atPhase (.pinRd .sl)).params.measBound ≤ 65535 ∧
    gapAdmits (atPhase (.pinRd .sl)).params (atPhase (.pinRd .sl)).sinceHost = true := by decide

theorem witness_PlacedWordRunsNext :
    decodeTableWord 24 0x000152 = some (.wrStat 0x0001#16) ∧ decodeTableWord 8 0x80 = some .tick := by decide

theorem witness_MachineRunTakesTheScheduledTurns : base.schedule = [] := rfl

theorem witness_BlockFollowsTheOperationsTaken :
    ∃ t, runTurns [.measure 1#16, tickTurn, .client] base = .next t := by
  obtain ⟨t, ht, _⟩ := exists_of_gives
    (show gives (runTurns [.measure 1#16, tickTurn, .client] base) (fun _ => true) = true by decide)
  exact ⟨t, ht⟩

theorem witness_StepConsumesOneTurn : ∃ t, step { base with schedule := [tickTurn] } = .next t := by
  obtain ⟨t, ht, _⟩ := exists_of_gives
    (show gives (step { base with schedule := [tickTurn] }) (fun _ => true) = true by decide)
  exact ⟨t, ht⟩

/-- Below the minimum. -/
theorem witness_HostStepsKeepTheTickBounds_min :
    ∃ s : State, s.schedule = .issue ⟨0x10#8, none⟩ :: [] ∧ decode ⟨0x10#8, none⟩ = .ok .rdCnt ∧
      agentOf .rdCnt = .host ∧ s.client.phase.active = false ∧ s.sinceHost = some 1 ∧
      (1 < s.params.ticksMin ∨ ∃ m, s.params.ticksMax = some m ∧ m < 1) :=
  ⟨{ base with
      schedule := [.issue ⟨0x10#8, none⟩], sinceHost := some 1, params := { Params.default with ticksMin := 2 } },
    rfl, by decide, rfl, rfl, rfl, .inl (by decide)⟩

/-- Above the maximum. -/
theorem witness_HostStepsKeepTheTickBounds_max :
    ∃ s : State, s.schedule = .issue ⟨0x10#8, none⟩ :: [] ∧ decode ⟨0x10#8, none⟩ = .ok .rdCnt ∧
      agentOf .rdCnt = .host ∧ s.client.phase.active = false ∧ s.sinceHost = some 4 ∧
      (4 < s.params.ticksMin ∨ ∃ m, s.params.ticksMax = some m ∧ m < 4) :=
  ⟨{ base with
      schedule := [.issue ⟨0x10#8, none⟩], sinceHost := some 4, params := { Params.default with ticksMax := some 3 } },
    rfl, by decide, rfl, rfl, rfl, .inr ⟨3, rfl, by decide⟩⟩

/-- A client's step below the minimum. -/
theorem witness_HostStepsKeepTheTickBounds_client :
    ∃ s : State, s.sinceHost = some 1 ∧ (1 < s.params.ticksMin ∨ ∃ m, s.params.ticksMax = some m ∧ m < 1) ∧
      s.schedule = .client :: [] ∧ s.client.phase.operation = some .rdPin ∧ s.params.measBound ≤ 65535 :=
  ⟨{ atPhase (.pinRd .sl) with sinceHost := some 1, params := { Params.default with ticksMin := 2, measBound := 65535 } },
    rfl, .inl (by decide), rfl, rfl, by decide⟩

/-- A call above the maximum. -/
theorem witness_HostStepsKeepTheTickBounds_call :
    ∃ s : State, s.sinceHost = some 4 ∧ (4 < s.params.ticksMin ∨ ∃ m, s.params.ticksMax = some m ∧ m < 4) ∧
      s.schedule = .measure 1#16 :: [] ∧ s.client.phase.active = false ∧ (1#16 : Word) ≠ 0#16 ∧
      s.params.measBound ≤ 65535 :=
  ⟨{ base with
      schedule := [.measure 1#16], sinceHost := some 4, params := { Params.default with ticksMax := some 3 } },
    rfl, .inr ⟨3, rfl, by decide⟩, rfl, rfl, by decide, by decide⟩

theorem witness_SecondHostIsRefused_label :
    (inPhase .clr1).client.phase.active = true ∧ decode ⟨0x18#8, none⟩ = .ok .rdEdge ∧ agentOf .rdEdge = .host ∧
    ({ inPhase .clr1 with schedule := [.issue ⟨0x18#8, none⟩] } : State).schedule = .issue ⟨0x18#8, none⟩ :: [] := by
  decide

theorem witness_SecondHostIsRefused_call :
    ({ inPhase .clr1 with schedule := [.measure 1#16] } : State).schedule = .measure 1#16 :: [] ∧
    ({ inPhase .clr1 with schedule := [.measure 1#16] } : State).client.phase.active = true := by decide

theorem witness_TickCountsAndSetsOvfOnAWrap :
    ({ base with run := false } : State).run = false ∧
    (({ base with count := 0xFFFF#16 } : State).run = true ∧ ({ base with count := 0xFFFF#16 } : State).count = 0xFFFF#16) ∧
    (({ base with count := 0xFFFE#16 } : State).run = true ∧
      ({ base with count := 0xFFFE#16 } : State).count ≠ 0xFFFF#16) := by decide

theorem witness_StatWriteOneClearsOvf :
    (0xFFFF#16).getLsbD 0 = true ∧ (0xFFFE#16).getLsbD 0 = false := by decide

theorem witness_CtrlWriteOneSetsRun :
    (0x8001#16).getLsbD 0 = true ∧ (0xFFFE#16).getLsbD 0 = false := by decide

theorem witness_CounterArithmeticLaw :
    base.run = true ∧ Instr.reset ∉ [Instr.tick, .rdStat, .tick] ∧
    ∀ i ∈ [Instr.tick, .rdStat, .tick], clearsOvf i = false := by decide

theorem witness_StatReadsAnyWrapSinceTheClear :
    (0x0001#16).getLsbD 0 = true ∧ Instr.reset ∉ [Instr.tick, .tick] ∧
    ∀ i ∈ [Instr.tick, .tick], clearsOvf i = false := by decide

theorem witness_OrderOfStepsDecidesTheOutcome :
    ({ base with count := 0xFFFF#16 } : State).run = true ∧ ({ base with count := 0xFFFF#16 } : State).count = 0xFFFF#16 ∧
    base.input = false := by decide

theorem witness_FirstEdgeReadAfterResetReportsNoEdge : Instr.rdEdge ∉ [Instr.inHigh, .rdPin, .inLow] := by decide

/-- An even number of level changes. -/
theorem witness_EdgeReadsSeeOnlyTheNetChange_even :
    Instr.rdEdge ∉ [Instr.inHigh, .inLow] ∧ Instr.reset ∉ [Instr.inHigh, .inLow] ∧
    countOps flips [.inHigh, .inLow] (afterOp .rdEdge base) % 2 = 0 := by decide

/-- An odd number. -/
theorem witness_EdgeReadsSeeOnlyTheNetChange_odd :
    Instr.rdEdge ∉ [Instr.inHigh, .inHigh] ∧ Instr.reset ∉ [Instr.inHigh, .inHigh] ∧
    countOps flips [.inHigh, .inHigh] (afterOp .rdEdge base) % 2 = 1 := by decide

theorem witness_PinReadPairsProveATransition_rise :
    ∃ a t u, exec .rdPin base = .next a ∧ runOps [.inHigh] a = .next t ∧ exec .rdPin t = .next u ∧
      a.resp = some (.okData 0x0000#16) ∧ u.resp = some (.okData 0x0001#16) :=
  ⟨_, _, _, rfl, rfl, rfl, by decide, by decide⟩

theorem witness_PinReadPairsProveATransition_fall :
    ∃ a t u, exec .rdPin { base with input := true } = .next a ∧ runOps [.inLow] a = .next t ∧
      exec .rdPin t = .next u ∧ a.resp = some (.okData 0x0001#16) ∧ u.resp = some (.okData 0x0000#16) :=
  ⟨_, _, _, rfl, rfl, rfl, by decide, by decide⟩

theorem witness_OddAccessesRaiseAlign : (0x1#4).toNat % 2 = 1 ∧ (0xF#4).toNat % 2 = 1 := by decide

theorem witness_BusErrorCausesFollowThePriority_width :
    decode ⟨0x0F#8, none⟩ = .ok (.rdByte 0xF#4) ∧ agentOf (.rdByte 0xF#4) = .host ∧ (0x0F#8).getLsbD 4 = false := by decide

theorem witness_BusErrorCausesFollowThePriority_align :
    decode ⟨0x1B#8, none⟩ = .ok (.rdOdd 0xB#4) ∧ agentOf (.rdOdd 0xB#4) = .host ∧ (0x1B#8).getLsbD 4 = true ∧
    (0x1B#8).getLsbD 0 = true := by decide

theorem witness_BusErrorCausesFollowThePriority_unmapped :
    decode ⟨0x5A#8, some 0#16⟩ = .ok (.wrUnmappedA 0#16) ∧ agentOf (.wrUnmappedA 0#16) = .host ∧
    (0x5A#8).getLsbD 4 = true ∧ (0x5A#8).getLsbD 0 = false ∧ 0xA ≤ (0x5A#8).toNat % 16 := by decide

theorem witness_BusErrorCausesFollowThePriority_none :
    decode ⟨0x18#8, none⟩ = .ok .rdEdge ∧ agentOf .rdEdge = .host ∧ (0x18#8).getLsbD 4 = true ∧
    (0x18#8).getLsbD 0 = false ∧ (0x18#8).toNat % 16 < 0xA := by decide

theorem witness_ErrorAnswersChangeNoField :
    ∃ t, exec (.wrOdd 0x3#4 0x0001#16) base = .next t ∧ t.resp = some (.err .align) := ⟨_, rfl, rfl⟩

theorem witness_FaultRecordsAreNeverRemoved :
    ∃ t, step { base with schedule := [tickTurn], faults := [.elapsedUnderflow 1#16 0#16] } = .next t ∧
      ({ base with schedule := [tickTurn], faults := [.elapsedUnderflow 1#16 0#16] } : State).faults ≠ [] := by
  obtain ⟨t, ht, _⟩ := exists_of_gives (show gives
    (step { base with schedule := [tickTurn], faults := [.elapsedUnderflow 1#16 0#16] }) (fun _ => true) = true by decide)
  exact ⟨t, ht, by decide⟩

theorem witness_NoBusErrorInsideMeasure :
    (endingAt 0 100#16 99#16).client.phase.active = true ∧
    ∃ t, step (endingAt 0 100#16 99#16) = .next t ∧ (t.faults == [.elapsedUnderflow 100#16 99#16]) = true :=
  ⟨by decide, exists_of_gives (by decide)⟩

/-- COUNT and OVF change at a wrap. -/
theorem witness_FieldsChangeOnlyByTheirWriters_tick :
    ∃ t, step { base with ovf := false, count := 0xFFFF#16, schedule := [tickTurn] } = .next t ∧
      (t.count != 0xFFFF#16 && t.ovf) = true :=
  exists_of_gives (by decide)

/-- OVF changes at a clear. -/
theorem witness_FieldsChangeOnlyByTheirWriters_clear :
    ∃ t, step { base with schedule := [.issue (encode clrOvf)] } = .next t ∧ (!t.ovf) = true :=
  exists_of_gives (by decide)

/-- RUN changes at a start. -/
theorem witness_FieldsChangeOnlyByTheirWriters_start :
    ∃ t, step { base with run := false, schedule := [.issue (encode (.wrCtrl 0x0001#16))] } = .next t ∧ t.run = true :=
  exists_of_gives (by decide)

/-- IN changes at an event. -/
theorem witness_FieldsChangeOnlyByTheirWriters_input :
    ∃ t, step { base with schedule := [highTurn] } = .next t ∧ t.input = true :=
  exists_of_gives (by decide)

/-- PREV and VALID change at an EDGE read. -/
theorem witness_FieldsChangeOnlyByTheirWriters_sample :
    ∃ t, step { base with input := true, schedule := [.issue (encode .rdEdge)] } = .next t ∧ (t.prev && t.valid) = true :=
  exists_of_gives (by decide)

/-- RUN and VALID change at a RESET. -/
theorem witness_FieldsChangeOnlyByTheirWriters_reset :
    ∃ t, step { base with valid := true, schedule := [.issue (encode .reset)] } = .next t ∧ (!t.run && !t.valid) = true :=
  exists_of_gives (by decide)

theorem witness_ReservedBitsReadZero_flag :
    ∃ t, exec .rdStat base = .next t ∧ agentOf .rdStat = .host ∧ t.resp = some (.okData 0x0001#16) :=
  ⟨_, rfl, rfl, by decide⟩

theorem witness_ReservedBitsReadZero_edge :
    ∃ t, exec .rdEdge { base with valid := true, prev := true } = .next t ∧ agentOf .rdEdge = .host ∧
      t.resp = some (.okData 0x0004#16) :=
  ⟨_, rfl, rfl, by decide⟩

theorem witness_RepeatedAccessesAnswerTheSame : agentOf (.wrStat 0x0001#16) = .host ∧ Instr.wrStat 0x0001#16 ≠ .rdEdge := by
  decide

theorem witness_MeasureEntryTakesClr1OrIsRefused_zero :
    ({ base with schedule := [.measure 0#16] } : State).schedule = .measure 0#16 :: [] ∧
    ({ base with schedule := [.measure 0#16] } : State).client.phase.active = false := by decide

theorem witness_MeasureEntryTakesClr1OrIsRefused_bound :
    ∃ s : State, s.schedule = .measure 1#16 :: [] ∧ s.client.phase.active = false ∧ (1#16 : Word) ≠ 0#16 ∧
      65535 < s.params.measBound :=
  ⟨{ base with schedule := [.measure 1#16], params := { Params.default with measBound := 65536 } }, rfl, rfl, by decide,
    by decide⟩

theorem witness_MeasureEntryTakesClr1OrIsRefused_taken :
    ∃ s : State, s.schedule = .measure 0xFFFF#16 :: [] ∧ s.client.phase.active = false ∧ (0xFFFF#16 : Word) ≠ 0#16 ∧
      s.params.measBound ≤ 65535 ∧ gapAdmits s.params s.sinceHost = true :=
  ⟨{ base with schedule := [.measure 0xFFFF#16], params := { Params.default with measBound := 65535 } }, rfl, rfl,
    by decide, by decide, rfl⟩

/-- The premises that the client's steps share: a client turn next, MEAS_BOUND and the gap admitted. -/
def clientNext (s : State) : Bool :=
  s.schedule == [.client] && decide (s.params.measBound ≤ 65535) && gapAdmits s.params s.sinceHost

theorem witness_StraightLinePhasesAdvance :
    clientNext (atPhase .clr1) = true ∧ clientNext (atPhase .clr2) = true ∧ clientNext (atPhase .clr3) = true ∧
    clientNext (atPhase .snapStart) = true ∧ (atPhase .clr1).client.phase = .clr1 ∧
    (atPhase .clr2).client.phase = .clr2 ∧ (atPhase .clr3).client.phase = .clr3 ∧
    (atPhase .snapStart).client.phase = .snapStart := by decide

/-- The wait goes on, and each of the four contexts ends. -/
theorem witness_PinTestEndsOrContinuesTheWait :
    (clientNext (atPhase (.pinRd .sh)) = true ∧ (atPhase (.pinRd .sh)).input ≠ Ctx.target .sh) ∧
    (clientNext (atPhase (.pinRd .sl)) = true ∧ (atPhase (.pinRd .sl)).input = Ctx.target .sl) ∧
    (clientNext { atPhase (.pinRd .sh) with input := true } = true ∧ true = Ctx.target .sh) ∧
    (clientNext (atPhase (.pinRd .ml)) = true ∧ (atPhase (.pinRd .ml)).input = Ctx.target .ml) := by decide

/-- The last exit of MH, and one before it. -/
theorem witness_PinTestEndsOrContinuesTheWait_mh :
    (∃ s : State, clientNext s = true ∧ s.client.phase = .pinRd .mh ∧ s.input = Ctx.target .mh ∧
      s.client.k + 1#16 = s.client.n) ∧
    (∃ s : State, clientNext s = true ∧ s.client.phase = .pinRd .mh ∧ s.input = Ctx.target .mh ∧
      s.client.k + 1#16 < s.client.n) :=
  ⟨⟨{ atPhase (.pinRd .mh) with input := true }, by decide, rfl, rfl, by decide⟩,
    ⟨{ atPhase (.pinRd .mh) with input := true, client := { (atPhase (.pinRd .mh)).client with n := 2#16 } }, by decide,
      rfl, rfl, by decide⟩⟩

theorem witness_FlagTestCountsAndAborts :
    (clientNext (atPhase (.ovfRd .ml)) = true ∧ (atPhase (.ovfRd .ml)).client.phase = .ovfRd .ml) ∧
    (∃ s : State, clientNext s = true ∧ s.client.phase = .clr .sl ∧ s.client.ov + 1 ≤ Ctx.bound s.params .sl) ∧
    (∃ s : State, clientNext s = true ∧ s.client.phase = .clr .mh ∧ Ctx.bound s.params .mh < s.client.ov + 1) :=
  ⟨by decide,
    ⟨{ atPhase (.clr .sl) with client := { (atPhase (.clr .sl)).client with ov := 4 } }, by decide, rfl, by decide⟩,
    ⟨{ atPhase (.clr .mh) with client := { (atPhase (.clr .mh)).client with ov := 1024 } }, by decide, rfl, by decide⟩⟩

theorem witness_SnapEndGivesTheElapsedTicks :
    (clientNext (endingAt 0 100#16 99#16) = true ∧ (endingAt 0 100#16 99#16).client.phase = .snapEnd ∧
      (endingAt 0 100#16 99#16).client.ov ≤ 65535 ∧
      ((endingAt 0 100#16 99#16).count < (endingAt 0 100#16 99#16).client.start ∧
        (endingAt 0 100#16 99#16).client.ov = 0)) ∧
    (clientNext (endingAt 65535 1#16 0#16) = true ∧ (endingAt 65535 1#16 0#16).client.phase = .snapEnd ∧
      (endingAt 65535 1#16 0#16).client.ov ≤ 65535 ∧
      ¬ ((endingAt 65535 1#16 0#16).count < (endingAt 65535 1#16 0#16).client.start ∧
        (endingAt 65535 1#16 0#16).client.ov = 0)) := by decide

theorem witness_ClientInvariantIsKeptByEveryStep :
    clientOk (endingAt 5 100#16 99#16) ∧ ∃ t, step (endingAt 5 100#16 99#16) = .next t ∧ (t.client.ov == 4) = true :=
  ⟨by simp [clientOk, Client.okUnder, endingAt, atPhase, inPhase, base, State.powerOn, Params.default,
      Config.measBoundDefault], exists_of_gives (by decide)⟩

/-- The turns of one measured period with one wrap, from after SNAP_START to before SNAP_END. -/
def measuredPeriod : List Turn :=
  [.client, tickTurn, .client, .client, .client, highTurn, .client]

/-- The state SNAP_START leaves, one tick before the wrap. -/
def afterSnapStart : State :=
  { inPhase (.pinRd .ml) with
    count := 0xFFFF#16, client := { (inPhase (.pinRd .ml)).client with start := 0xFFFF#16 } }

theorem witness_ResultIsExactUpToMiscountedWraps :
    clientOk afterSnapStart ∧ afterSnapStart.client.phase = .pinRd .ml ∧
    afterSnapStart.client.start = afterSnapStart.count ∧ allWithinCall measuredPeriod ∧
    ∃ t u, runTurns measuredPeriod afterSnapStart = .next t ∧ t.client.phase = .snapEnd ∧ clientTurn t = .next u ∧
      u.client.phase = .done := by
  obtain ⟨t, ht, h⟩ := exists_of_gives (show gives (runTurns measuredPeriod afterSnapStart)
    (fun t => t.client.phase == .snapEnd && gives (clientTurn t) (fun u => u.client.phase == .done)) = true by decide)
  simp only [Bool.and_eq_true, beq_iff_eq] at h
  obtain ⟨u, hu, h2⟩ := exists_of_gives h.2
  refine ⟨?_, by decide, by decide, ?_, t, u, ht, h.1, hu, by simpa using h2⟩
  · simp [clientOk, Client.okUnder, afterSnapStart, inPhase, base, State.powerOn, Client.initial]
  · unfold allWithinCall; decide

/-- A wait whose bound is 0, one tick before a wrap, the pin never at its target. -/
def aboutToAbort : State :=
  { inPhase (.pinRd .sl) with
    count := 0xFFFF#16, input := true, params := { Params.default with syncBound := 0 } }

theorem witness_AbortNeedsBoundPlusOneWraps :
    aboutToAbort.client.ov = 0 ∧ aboutToAbort.ovf = false ∧ (∀ y, aboutToAbort.client.phase ≠ .clr y) ∧
    allWithinCall [tickTurn, .client, .client] ∧
    ∃ t u, runTurns [tickTurn, .client, .client] aboutToAbort = .next t ∧ t.client.phase = .clr .sl ∧
      clientTurn t = .next u ∧ u.client.phase = .done := by
  obtain ⟨t, ht, h⟩ := exists_of_gives (show gives (runTurns [tickTurn, .client, .client] aboutToAbort)
    (fun t => t.client.phase == .clr .sl && gives (clientTurn t) (fun u => u.client.phase == .done)) = true by decide)
  simp only [Bool.and_eq_true, beq_iff_eq] at h
  obtain ⟨u, hu, h2⟩ := exists_of_gives h.2
  refine ⟨rfl, rfl, ?_, ?_, t, u, ht, h.1, hu, by simpa using h2⟩
  · intro y; simp [aboutToAbort, inPhase]
  · unfold allWithinCall; decide

theorem witness_SynchronizationSpansARise :
    (inPhase .clr2).client.phase = .clr2 ∧ (inPhase .clr2).input = false ∧
    (∀ x ∈ [Turn.client, highTurn, .client], isCall x = false) ∧
    ∃ t, runTurns [.client, highTurn, .client] (inPhase .clr2) = .next t ∧ (t.client.phase == .clr3) = true :=
  ⟨rfl, rfl, by decide, exists_of_gives (by decide)⟩

theorem witness_MeasurementSpansNPeriods :
    ({ inPhase .clr3 with input := true } : State).client.phase = .clr3 ∧
    ({ inPhase .clr3 with input := true } : State).input = true ∧
    (∀ x ∈ [Turn.client, .client, lowTurn, .client, highTurn, .client], isCall x = false) ∧
    ∃ t, runTurns [.client, .client, lowTurn, .client, highTurn, .client] { inPhase .clr3 with input := true } = .next t ∧
      (t.client.phase == .snapEnd) = true :=
  ⟨rfl, rfl, by decide, exists_of_gives (by decide)⟩

theorem witness_MinimumGapForcesTicksBetweenSnapshots :
    ∃ s t u : State, 1 ≤ s.params.ticksMin ∧ s.client.phase = .pinRd .ml ∧ s.client.k = 0#16 ∧ s.client.n ≠ 0#16 ∧
      s.sinceHost = some 0 ∧ (∀ x ∈ [tickTurn, .client, highTurn, tickTurn, .client, tickTurn], isCall x = false) ∧
      runTurns [tickTurn, .client, highTurn, tickTurn, .client, tickTurn] s = .next t ∧ t.client.phase = .snapEnd ∧
      clientTurn t = .next u := by
  obtain ⟨t, ht, h⟩ := exists_of_gives (show gives
    (runTurns [tickTurn, .client, highTurn, tickTurn, .client, tickTurn]
      { inPhase (.pinRd .ml) with params := { Params.default with ticksMin := 1 }, sinceHost := some 0 })
    (fun t => t.client.phase == .snapEnd && gives (clientTurn t) (fun _ => true)) = true by decide)
  simp only [Bool.and_eq_true, beq_iff_eq] at h
  obtain ⟨u, hu, _⟩ := exists_of_gives h.2
  exact ⟨_, t, u, by decide, rfl, rfl, by decide, rfl, by decide, ht, h.1, hu⟩

theorem witness_WaitWithoutCounterNeverEnds :
    ∃ s : State, s.run = false ∧ s.ovf = false ∧ s.input ≠ Ctx.target .sl ∧
      (s.client.phase = .pinRd .sl ∨ s.client.phase = .ovfRd .sl) ∧ s.params.measBound ≤ 65535 ∧
      s.params.ticksMin = 0 ∧ s.params.ticksMax = none ∧
      ∀ y ∈ [Turn.client, tickTurn, highTurn, .client], y = .client ∨ y = .issue (encode .tick) ∨
        y = .issue (encode (if Ctx.target .sl then .inLow else .inHigh)) :=
  ⟨{ inPhase (.pinRd .sl) with run := false, input := true }, rfl, rfl, by decide, .inl rfl, by decide, rfl, rfl,
    by decide⟩

/-! ### A fair infinite run of `measure`: the call, a wrap, three client steps to the abort, then ticks for ever -/

/-- The turns of that run. -/
def fairTurns : Nat → Turn
  | 0 => .measure 1#16
  | 1 => tickTurn
  | 2 => .client
  | 3 => .client
  | 4 => .client
  | _ => tickTurn

/-- Its states. -/
def fairStates : Nat → State
  | 0 => { aboutToAbort with client := Client.initial }
  | n + 1 => afterTurn (fairTurns n) (fairStates n)

theorem takeTurn_tick (s : State) :
    ∃ t, takeTurn tickTurn s = .next t ∧ t.client = s.client := by
  simp only [tickTurn, takeTurn, issueTurn, show decode (encode .tick) = .ok .tick by decide, agentOf, runInstr, exec,
    execTick, endEvent]
  simp only [show ¬ (Agent.counter = Agent.host) by decide, if_false]
  cases s.run <;> exact ⟨_, rfl, rfl⟩

theorem fairTurns_late (n : Nat) : fairTurns (n + 5) = tickTurn := rfl

theorem fairStates_late (n : Nat) : (fairStates (n + 5)).client.phase = .done := by
  induction n with
  | zero => decide
  | succ n ih =>
    obtain ⟨t, ht, hc⟩ := takeTurn_tick (fairStates (n + 5))
    show (afterTurn tickTurn (fairStates (n + 5))).client.phase = .done
    simp only [afterTurn, ht, hc, ih]

theorem fairStates_next (n : Nat) : takeTurn (fairTurns n) (fairStates n) = .next (fairStates (n + 1)) := by
  have key : ∃ t, takeTurn (fairTurns n) (fairStates n) = .next t := by
    match n with
    | 0 | 1 | 2 | 3 | 4 =>
      refine (exists_of_gives (p := fun _ => true) ?_).imp fun _ h => h.1
      decide
    | m + 5 => exact (takeTurn_tick _).imp fun _ h => h.1
  obtain ⟨t, ht⟩ := key
  simp only [fairStates, afterTurn, ht]

theorem fairTurns_no_reset (n : Nat) : fairTurns n ≠ .issue (encode .reset) := by
  match n with
  | 0 | 1 | 2 | 3 | 4 => decide
  | m + 5 => rw [fairTurns_late]; decide

/-- The host program that wants nothing but the call. -/
theorem witness_FairRunsOfMeasureEnd :
    InfiniteRun fairTurns fairStates ∧ CounterFair fairTurns fairStates ∧
    HostFair (fun _ => False) fairTurns fairStates ∧ (fairStates 0).run = true ∧
    ((∃ n, fairTurns 0 = .measure n) ∨ ((fairStates 0).client.phase.active = true ∧ clientOk (fairStates 0))) ∧
    ∀ n, fairTurns n ≠ .issue (encode .reset) := by
  refine ⟨fairStates_next, fun n _ => ⟨n + 5, by omega, rfl⟩, fun n h => ?_, rfl, .inl ⟨_, rfl⟩, fairTurns_no_reset⟩
  rcases h (n + 5) (by omega) with h | h
  · cases h
  · rw [fairStates_late] at h
    cases h

/-- The same run, begun one turn later, inside the call. -/
theorem witness_FairRunsOfMeasureEnd_inside :
    InfiniteRun (fun n => fairTurns (n + 1)) (fun n => fairStates (n + 1)) ∧
    CounterFair (fun n => fairTurns (n + 1)) (fun n => fairStates (n + 1)) ∧
    HostFair (fun _ => False) (fun n => fairTurns (n + 1)) (fun n => fairStates (n + 1)) ∧
    (fairStates 1).run = true ∧
    ((∃ n, fairTurns 1 = .measure n) ∨ ((fairStates 1).client.phase.active = true ∧ clientOk (fairStates 1))) ∧
    ∀ n, fairTurns (n + 1) ≠ .issue (encode .reset) := by
  have hp : (fairStates 1).client.phase = .pinRd .sl := by decide
  refine ⟨fun n => fairStates_next (n + 1), fun n _ => ⟨n + 5, by omega, rfl⟩, fun n h => ?_, by decide,
    .inr ⟨by decide, ?_⟩, fun n => fairTurns_no_reset (n + 1)⟩
  · rcases h (n + 4) (by omega) with h | h
    · cases h
    · rw [fairStates_late] at h
      cases h
  · simp only [clientOk, Client.okUnder, hp]
    exact ⟨by decide, by decide, by simp⟩

end Sys2Proof.Tests
end

/-! PROOFS of spec/00_scope.md: a step runs the operation its turn issues, and along a run of turns the block follows
the operations taken (R11, R28, R29, R40). -/

namespace Sys2Proof.Proofs.Scope

open Sys2Proof.Machine Sys2Proof.Safety

/-! ## A step that takes an issued label -/

/-- The count of TICK steps, in the spelling of the statements. -/
theorem gapAfter_eq (i : Instr) (g : Option Nat) :
    gapAfter i g = if agentOf i = .host then some 0 else if i = .tick then g.map (· + 1) else g := by
  cases i <;> simp [gapAfter, agentOf]

/-- A label that decodes is taken when the host, for a host access, is free and its gap admitted. -/
theorem issueTurn_takes_decoded {w : StepWords} {i : Instr} {s t : State} (hd : decode w = .ok i)
    (hfree : agentOf i = .host → s.client.phase.active = false ∧ gapAdmits s.params s.sinceHost = true)
    (ht : exec i s = .next t) : issueTurn w s = .next (t.setSinceHost (gapAfter i s.sinceHost)) :=
  issueTurn_next.mpr ⟨i, hd, hfree, runInstr_next.mpr ⟨t, ht, rfl⟩⟩

/-- Settles O7: every operation answers, and the turn taken is the issue of the operation's own words. -/
theorem stepRunsTheIssuedOperation : Obligations.StepRunsTheIssuedOperation := by
  intro s w rest i hsched hd hfree
  obtain ⟨t, ht⟩ := exec_answers i (s.setSchedule rest)
  have htaken : step s = .next (t.setSinceHost (gapAfter i s.sinceHost)) :=
    step_next.mpr ⟨.issue w, rest, hsched, issueTurn_takes_decoded hd hfree ht⟩
  exact ⟨t, ht, by rw [htaken, gapAfter_eq]; rfl⟩

/-! ## The fields that decide what an operation does to the block -/

/-- Two states agree on the block's six fields and on the number of resets taken, which fixes the draws of the next
reset. Nothing else of the state bears on the block, so operations keep this relation, as they would not keep the
equality of the six fields alone. -/
structure SameBlock (s s' : State) : Prop where
  count : s.count = s'.count
  ovf : s.ovf = s'.ovf
  run : s.run = s'.run
  input : s.input = s'.input
  prev : s.prev = s'.prev
  valid : s.valid = s'.valid
  draws : s.draws = s'.draws

namespace SameBlock

variable {s s' s'' t u : State}

theorem refl (s : State) : SameBlock s s := ⟨rfl, rfl, rfl, rfl, rfl, rfl, rfl⟩

theorem symm (h : SameBlock s s') : SameBlock s' s :=
  ⟨h.count.symm, h.ovf.symm, h.run.symm, h.input.symm, h.prev.symm, h.valid.symm, h.draws.symm⟩

theorem trans (h : SameBlock s s') (h' : SameBlock s' s'') : SameBlock s s'' :=
  ⟨h.count.trans h'.count, h.ovf.trans h'.ovf, h.run.trans h'.run, h.input.trans h'.input, h.prev.trans h'.prev,
    h.valid.trans h'.valid, h.draws.trans h'.draws⟩

theorem block_eq (h : SameBlock s s') : block s = block s' := by
  simp only [block, h.count, h.ovf, h.run, h.input, h.prev, h.valid]

/-! What the model keeps beside the block does not enter the relation. -/

theorem setClient_self (c : Client) (s : State) : SameBlock (s.setClient c) s := ⟨rfl, rfl, rfl, rfl, rfl, rfl, rfl⟩

theorem setSinceHost_self (g : Option Nat) (s : State) : SameBlock (s.setSinceHost g) s :=
  ⟨rfl, rfl, rfl, rfl, rfl, rfl, rfl⟩

theorem advanceClient_self (s : State) : SameBlock s.advanceClient s := ⟨rfl, rfl, rfl, rfl, rfl, rfl, rfl⟩

/-! Each update that operations are written with keeps the relation. -/

theorem respond (h : SameBlock s s') (r r' : Option Response) : SameBlock (s.respond r) (s'.respond r') :=
  ⟨h.count, h.ovf, h.run, h.input, h.prev, h.valid, h.draws⟩

theorem recordFault (h : SameBlock s s') (f : FaultRecord) : SameBlock (s.recordFault f) (s'.recordFault f) :=
  ⟨h.count, h.ovf, h.run, h.input, h.prev, h.valid, h.draws⟩

theorem setCount (h : SameBlock s s') (c : Word) : SameBlock (s.setCount c) (s'.setCount c) :=
  ⟨rfl, h.ovf, h.run, h.input, h.prev, h.valid, h.draws⟩

theorem setOvf (h : SameBlock s s') (b : Bool) : SameBlock (s.setOvf b) (s'.setOvf b) :=
  ⟨h.count, rfl, h.run, h.input, h.prev, h.valid, h.draws⟩

theorem setRun (h : SameBlock s s') (b : Bool) : SameBlock (s.setRun b) (s'.setRun b) :=
  ⟨h.count, h.ovf, rfl, h.input, h.prev, h.valid, h.draws⟩

theorem setInput (h : SameBlock s s') (b : Bool) : SameBlock (s.setInput b) (s'.setInput b) :=
  ⟨h.count, h.ovf, h.run, rfl, h.prev, h.valid, h.draws⟩

theorem sampleInput (h : SameBlock s s') : SameBlock s.sampleInput s'.sampleInput :=
  ⟨h.count, h.ovf, h.run, h.input, h.input, rfl, h.draws⟩

theorem applyReset (h : SameBlock s s') : SameBlock s.applyReset s'.applyReset :=
  ⟨congrArg Config.countReset h.draws, congrArg Config.ovfReset h.draws, rfl, h.input,
    congrArg Config.prevReset h.draws, rfl, congrArg (· + 1) h.draws⟩

/-! The outcomes of the shared operations, and of a tick, in related states. -/

theorem answerRead_next {v v' : Word} (h : SameBlock s s') (ht : answerRead v s = .next t)
    (hu : answerRead v' s' = .next u) : SameBlock t u := by
  obtain rfl := Machine.answerRead_next.mp ht
  obtain rfl := Machine.answerRead_next.mp hu
  exact h.respond _ _

theorem answerWrite_next (h : SameBlock s s') (ht : answerWrite s = .next t) (hu : answerWrite s' = .next u) :
    SameBlock t u := by
  obtain rfl := Machine.answerWrite_next.mp ht
  obtain rfl := Machine.answerWrite_next.mp hu
  exact h.respond _ _

theorem endEvent_next (h : SameBlock s s') (ht : endEvent s = .next t) (hu : endEvent s' = .next u) :
    SameBlock t u := by
  obtain rfl := Machine.endEvent_next.mp ht
  obtain rfl := Machine.endEvent_next.mp hu
  exact h.respond _ _

theorem raiseBusError_next {w : StepWords} {c : Cause} (h : SameBlock s s') (ht : raiseBusError w c s = .next t)
    (hu : raiseBusError w c s' = .next u) : SameBlock t u := by
  obtain rfl := Machine.raiseBusError_next.mp ht
  obtain rfl := Machine.raiseBusError_next.mp hu
  exact (h.recordFault _).respond _ _

theorem execTick_next (h : SameBlock s s') (ht : execTick s = .next t) (hu : execTick s' = .next u) :
    SameBlock t u := by
  unfold execTick at ht hu
  rw [← h.run, ← h.count, ← h.ovf] at hu
  split at ht
  · rw [if_pos ‹_›] at hu
    exact ((h.setCount _).setOvf _).endEvent_next ht hu
  · rw [if_neg ‹_›] at hu
    exact h.endEvent_next ht hu

/-- An operation taken in two related states leaves related states: what it does to the block is decided by the
block and the draws (R11, R121). -/
theorem exec_next {i : Instr} (h : SameBlock s s') (ht : exec i s = .next t) (hu : exec i s' = .next u) :
    SameBlock t u := by
  cases i with
  | tick => exact h.execTick_next ht hu
  | inLow => exact (h.setInput false).endEvent_next ht hu
  | inHigh => exact (h.setInput true).endEvent_next ht hu
  | reset => exact h.applyReset.endEvent_next ht hu
  | rdEdge => exact h.sampleInput.answerRead_next ht hu
  | rdCnt | rdStat | rdCtrl | rdPin => exact h.answerRead_next ht hu
  | wrStat d =>
    have hu : answerWrite (s'.setOvf (ovfAfterWrite d s.ovf)) = .next u := h.ovf ▸ hu
    exact (h.setOvf _).answerWrite_next ht hu
  | wrCtrl d =>
    have hu : answerWrite (s'.setRun (runAfterWrite d s.run)) = .next u := h.run ▸ hu
    exact (h.setRun _).answerWrite_next ht hu
  | wrCnt | wrPin | wrEdge => exact h.answerWrite_next ht hu
  | rdUnmappedA | rdUnmappedC | rdUnmappedE | rdOdd | rdByte
  | wrUnmappedA | wrUnmappedC | wrUnmappedE | wrOdd | wrByte =>
    exact h.raiseBusError_next ht hu

end SameBlock

/-! ## A turn does to the block what its operation does -/

theorem runInstr_sameBlock {i : Instr} {s u : State} (h : runInstr i s = .next u) :
    ∃ v, exec i s = .next v ∧ SameBlock v u := by
  obtain ⟨v, hv, rfl⟩ := runInstr_next.mp h
  exact ⟨v, hv, (SameBlock.setSinceHost_self _ v).symm⟩

theorem issueTurn_sameBlock {w : StepWords} {s u : State} (h : issueTurn w s = .next u) :
    ∃ i v, decode w = .ok i ∧ exec i s = .next v ∧ SameBlock v u := by
  obtain ⟨i, hd, -, hr⟩ := issueTurn_next.mp h
  obtain ⟨v, hv, hvu⟩ := runInstr_sameBlock hr
  exact ⟨i, v, hd, hv, hvu⟩

theorem clientTurn_sameBlock {s u : State} (h : clientTurn s = .next u) :
    ∃ i v, s.client.phase.operation = some i ∧ exec i s = .next v ∧ SameBlock v u := by
  obtain ⟨i, t, ho, -, -, hr, rfl⟩ := clientTurn_next.mp h
  obtain ⟨v, hv, hvt⟩ := runInstr_sameBlock hr
  exact ⟨i, v, ho, hv, hvt.trans (SameBlock.advanceClient_self t).symm⟩

/-- The call changes the client before its first host step, which is CLR1's whatever the call found. -/
theorem measureTurn_sameBlock {n : Word} {s u : State} (h : measureTurn n s = .next u) :
    ∃ v, exec clrOvf s = .next v ∧ SameBlock v u := by
  obtain ⟨-, -, hc⟩ := measureTurn_next.mp h
  obtain ⟨i, t, ho, ht, htu⟩ := clientTurn_sameBlock hc
  obtain rfl : clrOvf = i := Option.some.inj ho
  obtain ⟨v, hv⟩ := exec_answers clrOvf s
  exact ⟨v, hv, ((SameBlock.setClient_self _ s).symm.exec_next hv ht).trans htu⟩

/-- A turn that is taken takes an operation, and leaves the block as the operation alone does. -/
theorem takeTurn_sameBlock {x : Turn} {s u : State} (h : takeTurn x s = .next u) :
    ∃ i v, opOf x s = some i ∧ exec i s = .next v ∧ SameBlock v u := by
  cases x with
  | issue w =>
    obtain ⟨i, v, hd, hv, hvu⟩ := issueTurn_sameBlock h
    exact ⟨i, v, by simp only [opOf, hd], hv, hvu⟩
  | measure n =>
    obtain ⟨v, hv, hvu⟩ := measureTurn_sameBlock h
    exact ⟨clrOvf, v, rfl, hv, hvu⟩
  | client => exact clientTurn_sameBlock h

/-! ## Runs -/

theorem runTurns_cons_next {x : Turn} {ts : List Turn} {s t : State} :
    runTurns (x :: ts) s = .next t ↔ ∃ u, takeTurn x s = .next u ∧ runTurns ts u = .next t := by
  simp only [runTurns]
  cases takeTurn x s <;> simp

theorem runOps_cons_next {i : Instr} {is : List Instr} {s t : State} :
    runOps (i :: is) s = .next t ↔ ∃ u, exec i s = .next u ∧ runOps is u = .next t := by
  simp only [runOps]
  cases exec i s <;> simp

/-- The operations of a run that begins with a turn taken. -/
theorem opsOf_cons {x : Turn} {ts : List Turn} {i : Instr} {s u : State} (ho : opOf x s = some i)
    (hx : takeTurn x s = .next u) : opsOf (x :: ts) s = i :: opsOf ts u := by
  simp [opsOf, afterTurn, ho, hx]

/-- The run of turns simulates the run of its operations: from related states they end in related states. -/
theorem runOps_opsOf_sameBlock {ts : List Turn} {s s' t : State} (h : SameBlock s s')
    (hrun : runTurns ts s = .next t) : ∃ u, runOps (opsOf ts s) s' = .next u ∧ SameBlock t u := by
  induction ts generalizing s s' with
  | nil =>
    obtain rfl : s = t := by simpa [runTurns] using hrun
    exact ⟨s', rfl, h⟩
  | cons x ts ih =>
    obtain ⟨a, hx, hrest⟩ := runTurns_cons_next.mp hrun
    obtain ⟨i, v, ho, hv, hva⟩ := takeTurn_sameBlock hx
    obtain ⟨b, hb⟩ := exec_answers i s'
    have hab : SameBlock a b := hva.symm.trans (h.exec_next hv hb)
    obtain ⟨u, hu, htu⟩ := ih hab hrest
    exact ⟨u, by rw [opsOf_cons ho hx]; exact runOps_cons_next.mpr ⟨b, hb, hu⟩, htu⟩

/-- Settles O11: the simulation, begun from one state. -/
theorem blockFollowsTheOperationsTaken : Obligations.BlockFollowsTheOperationsTaken := by
  intro ts s t hrun
  obtain ⟨u, hu, htu⟩ := runOps_opsOf_sameBlock (SameBlock.refl s) hrun
  exact ⟨u, hu, htu.block_eq.symm⟩

end Sys2Proof.Proofs.Scope

/-! PROOFS of spec/10_state.md: which operation writes which field of the block (R15 to R20), that an EDGE read with no
sample since the reset reports no edge (R20, R25), and what the reserved bits read (R22 to R25). -/

namespace Sys2Proof.Proofs.BlockState

open Sys2Proof.Machine Sys2Proof.Safety Sys2Proof.Proofs.Scope

/-! ## What one operation can do to the block -/

/-- What operation `i` may make of the block it is taken in: an update by one of the writers R15 names, or nothing. -/
inductive Effect (s : State) : Instr → State → Prop
  | tick (hrun : s.run = true) : Effect s .tick ((s.setCount (s.count + 1#16)).setOvf (ovfAfterTick s.count s.ovf))
  | wrStat (d : Word) : Effect s (.wrStat d) (s.setOvf (ovfAfterWrite d s.ovf))
  | wrCtrl (d : Word) : Effect s (.wrCtrl d) (s.setRun (runAfterWrite d s.run))
  | inLow : Effect s .inLow (s.setInput false)
  | inHigh : Effect s .inHigh (s.setInput true)
  | rdEdge : Effect s .rdEdge s.sampleInput
  | reset : Effect s .reset s.applyReset
  | unchanged (i : Instr) : Effect s i s

/-! Each shared outcome leaves the block of the state it is given. -/

theorem respond_sameBlock (r : Option Response) (s : State) : SameBlock (s.respond r) s :=
  ⟨rfl, rfl, rfl, rfl, rfl, rfl, rfl⟩

theorem answerRead_sameBlock {v : Word} {s t : State} (h : answerRead v s = .next t) : SameBlock t s :=
  answerRead_next.mp h ▸ respond_sameBlock _ s

theorem answerWrite_sameBlock {s t : State} (h : answerWrite s = .next t) : SameBlock t s :=
  answerWrite_next.mp h ▸ respond_sameBlock _ s

theorem endEvent_sameBlock {s t : State} (h : endEvent s = .next t) : SameBlock t s :=
  endEvent_next.mp h ▸ respond_sameBlock _ s

theorem raiseBusError_sameBlock {w : StepWords} {c : Cause} {s t : State} (h : raiseBusError w c s = .next t) :
    SameBlock t s :=
  raiseBusError_next.mp h ▸ ⟨rfl, rfl, rfl, rfl, rfl, rfl, rfl⟩

theorem execTick_effect {s t : State} (h : execTick s = .next t) : ∃ e, Effect s .tick e ∧ SameBlock t e := by
  unfold execTick at h
  split at h
  case isTrue hrun => exact ⟨_, .tick hrun, endEvent_sameBlock h⟩
  case isFalse => exact ⟨_, .unchanged _, endEvent_sameBlock h⟩

/-- Every operation has one of the effects listed. -/
theorem exec_effect {i : Instr} {s t : State} (h : exec i s = .next t) : ∃ e, Effect s i e ∧ SameBlock t e := by
  cases i with
  | tick => exact execTick_effect h
  | inLow => exact ⟨_, .inLow, endEvent_sameBlock h⟩
  | inHigh => exact ⟨_, .inHigh, endEvent_sameBlock h⟩
  | reset => exact ⟨_, .reset, endEvent_sameBlock h⟩
  | rdEdge => exact ⟨_, .rdEdge, answerRead_sameBlock h⟩
  | wrStat d => exact ⟨_, .wrStat d, answerWrite_sameBlock h⟩
  | wrCtrl d => exact ⟨_, .wrCtrl d, answerWrite_sameBlock h⟩
  | rdCnt | rdStat | rdCtrl | rdPin => exact ⟨s, .unchanged _, answerRead_sameBlock h⟩
  | wrCnt | wrPin | wrEdge => exact ⟨s, .unchanged _, answerWrite_sameBlock h⟩
  | rdUnmappedA | rdUnmappedC | rdUnmappedE | rdOdd | rdByte
  | wrUnmappedA | wrUnmappedC | wrUnmappedE | wrOdd | wrByte =>
    exact ⟨s, .unchanged _, raiseBusError_sameBlock h⟩

/-! ## What a step can do to the block -/

theorem opOf_setSchedule (x : Turn) (ts : List Turn) (s : State) : opOf x (s.setSchedule ts) = opOf x s := by
  cases x <;> rfl

theorem setSchedule_sameBlock (ts : List Turn) (s : State) : SameBlock (s.setSchedule ts) s :=
  ⟨rfl, rfl, rfl, rfl, rfl, rfl, rfl⟩

/-- A step takes the operation of its turn, and does to the block what the operation does in the state before. -/
theorem step_effect {s t : State} (h : step s = .next t) :
    ∃ x rest i e, s.schedule = x :: rest ∧ opOf x s = some i ∧ Effect s i e ∧ SameBlock t e := by
  obtain ⟨x, rest, hsched, htake⟩ := step_next.mp h
  obtain ⟨i, v, hop, hv, hvt⟩ := takeTurn_sameBlock htake
  obtain ⟨w, hw⟩ := exec_answers i s
  have hvw : SameBlock v w := (setSchedule_sameBlock rest s).exec_next hv hw
  obtain ⟨e, heff, hwe⟩ := exec_effect hw
  exact ⟨x, rest, i, e, hsched, opOf_setSchedule x rest s ▸ hop, heff, hvt.symm.trans (hvw.trans hwe)⟩

/-! ## The writers of each field (R15) -/

/-- OVF changes on a tick only to 1, by a wrap (R17, R57). -/
theorem ovfAfterTick_ne {c : Word} {o : Bool} (h : ovfAfterTick c o ≠ o) :
    c = 0xFFFF#16 ∧ ovfAfterTick c o = true := by
  unfold ovfAfterTick at h ⊢
  split
  case isTrue hwrap => exact ⟨by simpa [wrapsAt] using hwrap, rfl⟩
  case isFalse hwrap => exact absurd (if_neg hwrap) h

/-- OVF changes on a write only to 0, by D[0] = 1 (R17, R62). -/
theorem ovfAfterWrite_ne {d : Word} {o : Bool} (h : ovfAfterWrite d o ≠ o) :
    d.getLsbD 0 = true ∧ ovfAfterWrite d o = false := by
  unfold ovfAfterWrite at h ⊢
  split
  case isTrue hbit => exact ⟨hbit, rfl⟩
  case isFalse hbit => exact absurd (if_neg hbit) h

/-- RUN changes on a write only to 1, by D[0] = 1 (R18, R64). -/
theorem runAfterWrite_ne {d : Word} {r : Bool} (h : runAfterWrite d r ≠ r) :
    d.getLsbD 0 = true ∧ runAfterWrite d r = true := by
  unfold runAfterWrite at h ⊢
  split
  case isTrue hbit => exact ⟨hbit, rfl⟩
  case isFalse hbit => exact absurd (if_neg hbit) h

namespace Effect

variable {s e : State} {i : Instr}

theorem count_writer (h : Effect s i e) (hne : e.count ≠ s.count) : (i = .tick ∧ s.run = true) ∨ i = .reset := by
  cases h with
  | tick hrun => exact .inl ⟨rfl, hrun⟩
  | reset => exact .inr rfl
  | wrStat | wrCtrl | inLow | inHigh | rdEdge | unchanged => exact absurd rfl hne

theorem ovf_writer (h : Effect s i e) (hne : e.ovf ≠ s.ovf) :
    (i = .tick ∧ s.run = true ∧ s.count = 0xFFFF#16 ∧ e.ovf = true) ∨
      (∃ d, i = .wrStat d ∧ d.getLsbD 0 = true ∧ e.ovf = false) ∨ i = .reset := by
  cases h with
  | tick hrun => exact .inl ⟨rfl, hrun, ovfAfterTick_ne hne⟩
  | wrStat d => exact .inr (.inl ⟨d, rfl, ovfAfterWrite_ne hne⟩)
  | reset => exact .inr (.inr rfl)
  | wrCtrl | inLow | inHigh | rdEdge | unchanged => exact absurd rfl hne

theorem run_writer (h : Effect s i e) (hne : e.run ≠ s.run) :
    (∃ d, i = .wrCtrl d ∧ d.getLsbD 0 = true ∧ e.run = true) ∨ (i = .reset ∧ e.run = false) := by
  cases h with
  | wrCtrl d => exact .inl ⟨d, rfl, runAfterWrite_ne hne⟩
  | reset => exact .inr ⟨rfl, rfl⟩
  | tick | wrStat | inLow | inHigh | rdEdge | unchanged => exact absurd rfl hne

theorem input_writer (h : Effect s i e) (hne : e.input ≠ s.input) :
    (i = .inLow ∧ e.input = false) ∨ (i = .inHigh ∧ e.input = true) := by
  cases h with
  | inLow => exact .inl ⟨rfl, rfl⟩
  | inHigh => exact .inr ⟨rfl, rfl⟩
  | tick | wrStat | wrCtrl | rdEdge | reset | unchanged => exact absurd rfl hne

theorem prev_writer (h : Effect s i e) (hne : e.prev ≠ s.prev) : i = .rdEdge ∨ i = .reset := by
  cases h with
  | rdEdge => exact .inl rfl
  | reset => exact .inr rfl
  | tick | wrStat | wrCtrl | inLow | inHigh | unchanged => exact absurd rfl hne

theorem valid_writer (h : Effect s i e) (hne : e.valid ≠ s.valid) :
    (i = .rdEdge ∧ e.valid = true) ∨ (i = .reset ∧ e.valid = false) := by
  cases h with
  | rdEdge => exact .inl ⟨rfl, rfl⟩
  | reset => exact .inr ⟨rfl, rfl⟩
  | tick | wrStat | wrCtrl | inLow | inHigh | unchanged => exact absurd rfl hne

end Effect

/-- Settles O35: the step's effect on the block, read field by field. -/
theorem fieldsChangeOnlyByTheirWriters : Obligations.FieldsChangeOnlyByTheirWriters := by
  intro s t hstep
  obtain ⟨x, rest, i, e, hsched, hop, heff, hte⟩ := step_effect hstep
  refine ⟨x, rest, i, hsched, hop, ?_⟩
  rw [hte.count, hte.ovf, hte.run, hte.input, hte.prev, hte.valid]
  exact ⟨heff.count_writer, heff.ovf_writer, heff.run_writer, heff.input_writer, heff.prev_writer, heff.valid_writer⟩

/-! ## Runs of operations with no EDGE read -/

theorem runOps_answers (is : List Instr) (s : State) : ∃ t, runOps is s = .next t := by
  induction is generalizing s with
  | nil => exact ⟨s, rfl⟩
  | cons i is ih =>
    obtain ⟨u, hu⟩ := exec_answers i s
    obtain ⟨t, ht⟩ := ih u
    exact ⟨t, runOps_cons_next.mpr ⟨u, hu, ht⟩⟩

theorem runOps_append_next {is js : List Instr} {s t : State} :
    runOps (is ++ js) s = .next t ↔ ∃ u, runOps is s = .next u ∧ runOps js u = .next t := by
  induction is generalizing s with
  | nil => simp [runOps]
  | cons i is ih =>
    obtain ⟨a, ha⟩ := exec_answers i s
    simp [runOps, ha, ih]

/-- Only an EDGE read sets VALID (R20). -/
theorem exec_keeps_invalid {i : Instr} {s t : State} (h : exec i s = .next t) (hi : i ≠ .rdEdge)
    (hv : s.valid = false) : t.valid = false := by
  obtain ⟨e, heff, hte⟩ := exec_effect h
  rw [hte.valid]
  by_contra hne
  obtain ⟨hedge, -⟩ | ⟨-, hfalse⟩ := heff.valid_writer (by rwa [hv])
  · exact hi hedge
  · exact hne hfalse

theorem runOps_keeps_invalid {is : List Instr} {s t : State} (h : runOps is s = .next t) (hno : .rdEdge ∉ is)
    (hv : s.valid = false) : t.valid = false := by
  induction is generalizing s with
  | nil =>
    obtain rfl : s = t := by simpa [runOps] using h
    exact hv
  | cons i is ih =>
    obtain ⟨hi, his⟩ := List.ne_and_not_mem_of_not_mem_cons hno
    obtain ⟨u, hu, hrest⟩ := runOps_cons_next.mp h
    exact ih hrest his (exec_keeps_invalid hu hi.symm hv)

/-! ## What a read answers -/

theorem answerRead_data {v w : Word} {s t : State} (h : answerRead v s = .next t) (hr : t.resp = some (.okData w)) :
    w = v := by
  obtain rfl := answerRead_next.mp h
  simpa [eq_comm] using hr

/-- Without a sample since the reset, RISE and FALL are 0 (R25). -/
theorem edge_bits_of_invalid {s : State} (hv : s.valid = false) :
    (regRead .edge s).getLsbD 1 = false ∧ (regRead .edge s).getLsbD 2 = false := by
  simp only [regRead, edgeData_rise, edgeData_fall, riseOf, fallOf, hv, Bool.false_and, and_self]

/-- Settles O25: RESET clears VALID, nothing before the EDGE read sets it, and so the read reports no edge. -/
theorem firstEdgeReadAfterResetReportsNoEdge : Obligations.FirstEdgeReadAfterResetReportsNoEdge := by
  intro ops s hno
  obtain ⟨u, hu⟩ := runOps_answers (.reset :: ops) s
  obtain ⟨a, ha, hrest⟩ := runOps_cons_next.mp hu
  obtain rfl := endEvent_next.mp ha
  have huv : u.valid = false := runOps_keeps_invalid hrest hno rfl
  exact ⟨u.sampleInput.respond (some (.okData (regRead .edge u))), regRead .edge u,
    runOps_append_next.mpr ⟨u, hu, rfl⟩, rfl, edge_bits_of_invalid huv⟩

/-- A one-bit field is read with fifteen zero bits (R22 to R24). -/
theorem zext16_toNat_lt (b : Bool) : (zext16 b).toNat < 2 := by
  cases b <;> decide

/-- EDGE is read with thirteen zero bits (R25). -/
theorem edgeData_toNat_lt (f r c : Bool) : (edgeData f r c).toNat < 8 := by
  cases f <;> cases r <;> cases c <;> decide

/-- A sample above the previous one is not below it (R25). -/
theorem not_riseOf_and_fallOf (valid prev cur : Bool) :
    ¬ (riseOf valid prev cur = true ∧ fallOf valid prev cur = true) := by
  cases cur <;> simp [riseOf, fallOf]

/-- Settles O36: each of the four reads answers the register's read data, whose reserved bits are 0. -/
theorem reservedBitsReadZero : Obligations.ReservedBitsReadZero := by
  intro i s t v h _ hr
  constructor
  · rintro (rfl | rfl | rfl)
    all_goals exact answerRead_data h hr ▸ zext16_toNat_lt _
  · rintro rfl
    obtain rfl := answerRead_data h hr
    refine ⟨edgeData_toNat_lt _ _ _, ?_⟩
    simp only [regRead, edgeData_rise, edgeData_fall]
    exact not_riseOf_and_fallOf _ _ _

end Sys2Proof.Proofs.BlockState

/-! PROOFS of spec/20_memory.md: the schedule that orders the agents' turns (R28), the bounds on the ticks between host
steps (R29), the window in the host's address space (R31), and the idempotency of the host's accesses (R37). -/

namespace Sys2Proof.Proofs.Memory

open Sys2Proof.Machine Sys2Proof.Safety

/-! ## What a turn keeps -/

theorem runInstr_keeps_schedule_params {i : Instr} {s u : State} (h : runInstr i s = .next u) :
    u.schedule = s.schedule ∧ u.params = s.params := by
  obtain ⟨t, ht, rfl⟩ := runInstr_next.mp h
  simp only [setSinceHost_schedule, setSinceHost_params, exec_keeps_schedule ht, exec_keeps_params ht, and_self]

theorem clientTurn_keeps_schedule_params {s u : State} (h : clientTurn s = .next u) :
    u.schedule = s.schedule ∧ u.params = s.params := by
  obtain ⟨i, t, -, -, -, ht, rfl⟩ := clientTurn_next.mp h
  simpa only [advanceClient_schedule, advanceClient_params] using runInstr_keeps_schedule_params ht

/-- A turn takes nothing off the schedule itself, adds nothing to it, and changes no parameter (R8). -/
theorem takeTurn_keeps_schedule_params {x : Turn} {s u : State} (h : takeTurn x s = .next u) :
    u.schedule = s.schedule ∧ u.params = s.params := by
  cases x with
  | issue w =>
    obtain ⟨i, -, -, hr⟩ := issueTurn_next.mp h
    exact runInstr_keeps_schedule_params hr
  | measure n =>
    obtain ⟨-, -, hc⟩ := measureTurn_next.mp h
    simpa only [setClient_schedule, setClient_params] using clientTurn_keeps_schedule_params hc
  | client => exact clientTurn_keeps_schedule_params h

/-- Settles O12: the step takes the first turn off, and the turn keeps the rest and the parameters. -/
theorem stepConsumesOneTurn : Obligations.StepConsumesOneTurn := by
  intro s t hstep
  obtain ⟨x, rest, hsched, htake⟩ := step_next.mp hstep
  obtain ⟨hrest, hparams⟩ := takeTurn_keeps_schedule_params htake
  exact ⟨⟨x, hsched.trans (congrArg (x :: ·) hrest.symm)⟩, hparams⟩

/-! ## A turn does not read the schedule -/

/-- The outcome with its next state, where it has one, changed by `f`. -/
def mapNext (f : State → State) : Host.Outcome State Fault Refusal → Host.Outcome State Fault Refusal
  | .next s => .next (f s)
  | .fault r => .fault r
  | .refused r => .refused r

@[simp] theorem mapNext_next (f : State → State) (s : State) : mapNext f (.next s) = .next (f s) := rfl

@[simp] theorem mapNext_fault (f : State → State) (r : Fault) : mapNext f (.fault r) = .fault r := rfl

@[simp] theorem mapNext_refused (f : State → State) (r : Refusal) : mapNext f (.refused r) = .refused r := rfl

section
variable (ts : List Turn) (s : State)

theorem exec_setSchedule (i : Instr) : exec i (s.setSchedule ts) = mapNext (·.setSchedule ts) (exec i s) := by
  cases i with
  | tick =>
    simp only [exec, execTick, setSchedule_run, apply_ite (mapNext _)]
    rfl
  | _ => rfl

theorem runInstr_setSchedule (i : Instr) :
    runInstr i (s.setSchedule ts) = mapNext (·.setSchedule ts) (runInstr i s) := by
  obtain ⟨t, ht⟩ := exec_answers i s
  simp only [runInstr, exec_setSchedule, ht, mapNext_next]
  rfl

theorem issueTurn_setSchedule (w : StepWords) :
    issueTurn w (s.setSchedule ts) = mapNext (·.setSchedule ts) (issueTurn w s) := by
  simp only [issueTurn, runInstr_setSchedule, setSchedule_client, setSchedule_params, setSchedule_sinceHost]
  cases decode w with
  | error e => rfl
  | ok i => simp only [apply_ite (mapNext _), mapNext_refused]

theorem clientTurn_setSchedule : clientTurn (s.setSchedule ts) = mapNext (·.setSchedule ts) (clientTurn s) := by
  simp only [clientTurn, runInstr_setSchedule, setSchedule_client, setSchedule_params, setSchedule_sinceHost]
  cases s.client.phase.operation with
  | none => rfl
  | some i =>
    simp only [apply_ite (mapNext _), mapNext_refused]
    cases runInstr i s <;> rfl

theorem measureTurn_setSchedule (n : Word) :
    measureTurn n (s.setSchedule ts) = mapNext (·.setSchedule ts) (measureTurn n s) := by
  have hcall : clientTurn ((s.setSchedule ts).setClient (s.client.enter n)) =
      mapNext (·.setSchedule ts) (clientTurn (s.setClient (s.client.enter n))) :=
    clientTurn_setSchedule ts (s.setClient (s.client.enter n))
  simp only [measureTurn, setSchedule_client, hcall, apply_ite (mapNext _), mapNext_refused]

/-- Taking a turn commutes with a change of the turns to come. -/
theorem takeTurn_setSchedule (x : Turn) :
    takeTurn x (s.setSchedule ts) = mapNext (·.setSchedule ts) (takeTurn x s) := by
  cases x with
  | issue w => exact issueTurn_setSchedule ts s w
  | measure n => exact measureTurn_setSchedule ts s n
  | client => exact clientTurn_setSchedule ts s

end

/-! ## The machine's run of a schedule -/

/-- With a turn in front of the schedule, a step is that turn, taken with the rest still to come. -/
theorem step_of_schedule {x : Turn} {rest : List Turn} {s : State} (h : s.schedule = x :: rest) :
    step s = takeTurn x (s.setSchedule rest) := by
  simp only [step, takeNextTurn, h]

theorem step_setSchedule_cons (x : Turn) (ts : List Turn) (s : State) :
    step (s.setSchedule (x :: ts)) = mapNext (·.setSchedule ts) (takeTurn x s) :=
  (step_of_schedule rfl).trans (takeTurn_setSchedule ts s x)

/-- Settles O10, by induction on the turns: each step takes the first one as it is taken with nothing scheduled, and
leaves the others scheduled. -/
theorem machineRunTakesTheScheduledTurns : Obligations.MachineRunTakesTheScheduledTurns := by
  intro ts
  induction ts with
  | nil =>
    intro s hs
    exact congrArg Host.Outcome.next (show s.setSchedule [] = s by rw [← hs]; rfl)
  | cons x ts ih =>
    intro s hs
    have hstep : core.step { s with schedule := x :: ts } = mapNext (·.setSchedule ts) (takeTurn x s) :=
      step_setSchedule_cons x ts s
    simp only [List.length_cons, Host.Core.run, runTurns, hstep]
    cases hx : takeTurn x s with
    | next u => exact ih u ((takeTurn_keeps_schedule_params hx).1.trans hs)
    | fault r => rfl
    | refused r => rfl

/-! ## The window (R31) -/

theorem offsetAt_inside (a : Offset) : offsetAt (Config.frcBase + a.toNat) = some a := by
  have hin : Config.frcBase ≤ Config.frcBase + a.toNat ∧ Config.frcBase + a.toNat ≤ Config.frcBase + 15 := by omega
  rw [offsetAt, if_pos hin, Nat.add_sub_cancel_left, BitVec.ofNat_toNat, BitVec.setWidth_eq]

theorem offsetAt_outside {addr : Nat} (h : addr < Config.frcBase ∨ Config.frcBase + 15 < addr) :
    offsetAt addr = none :=
  if_neg (by omega)

/-- Settles O5: the window's addresses are those that have an offset. -/
theorem windowAddressesReachTheirOffsets : Obligations.WindowAddressesReachTheirOffsets := by
  refine ⟨Nat.mul_mod_right 16 _, fun a wd v => ?_, fun addr wd v hout => ?_⟩
  · simp only [memRead, memWrite, offsetAt_inside, Option.map_some, and_self]
  · simp only [memRead, memWrite, offsetAt_outside hout, Option.map_none, and_self]

/-! ## The ticks between host steps (R29) -/

theorem gapAdmits_some {p : Params} {g : Nat} :
    gapAdmits p (some g) = true ↔ p.ticksMin ≤ g ∧ ∀ m, p.ticksMax = some m → g ≤ m := by
  cases h : p.ticksMax <;> simp [gapAdmits, h]

theorem not_gapAdmits_of_outside {p : Params} {g : Nat} (h : g < p.ticksMin ∨ ∃ m, p.ticksMax = some m ∧ m < g) :
    ¬ gapAdmits p (some g) = true := by
  intro hadm
  obtain ⟨hmin, hmax⟩ := gapAdmits_some.mp hadm
  obtain hlt | ⟨m, hm, hlt⟩ := h
  · exact Nat.not_lt.mpr hmin hlt
  · exact Nat.not_lt.mpr (hmax m hm) hlt

/-- With R8's defaults the bounds are 0 and none. -/
theorem gapAdmits_default (gap : Option Nat) : gapAdmits Params.default gap = true := by
  cases gap with
  | none => rfl
  | some g => exact gapAdmits_some.mpr ⟨Nat.zero_le g, fun _ hm => nomatch hm⟩

/-! Where nothing else refuses the host's step, a gap that is not admitted does. -/

theorem issueTurn_refuses_gap {w : StepWords} {i : Instr} {s : State} (hd : decode w = .ok i)
    (hhost : agentOf i = .host) (hfree : s.client.phase.active = false)
    (hgap : ¬ gapAdmits s.params s.sinceHost = true) : issueTurn w s = .refused .gapNotAdmitted := by
  simp only [issueTurn, hd, if_pos hhost, hfree, Bool.false_eq_true, if_false, if_neg hgap]

theorem clientTurn_refuses_gap {i : Instr} {s : State} (ho : s.client.phase.operation = some i)
    (hbound : s.params.measBound ≤ 65535) (hgap : ¬ gapAdmits s.params s.sinceHost = true) :
    clientTurn s = .refused .gapNotAdmitted := by
  have hmax : ¬ Config.measBoundMax < s.params.measBound := Nat.not_lt.mpr hbound
  simp only [clientTurn, ho, if_neg hmax, if_neg hgap]

theorem measureTurn_refuses_gap {n : Word} {s : State} (hfree : s.client.phase.active = false) (hn : n ≠ 0#16)
    (hbound : s.params.measBound ≤ 65535) (hgap : ¬ gapAdmits s.params s.sinceHost = true) :
    measureTurn n s = .refused .gapNotAdmitted := by
  have hclr1 : (s.setClient (s.client.enter n)).client.phase.operation = some clrOvf := rfl
  simp only [measureTurn, hfree, Bool.false_eq_true, if_false, if_neg hn]
  exact clientTurn_refuses_gap hclr1 hbound hgap

/-- Settles O13: each kind of host step finds the gap not admitted. -/
theorem hostStepsKeepTheTickBounds : Obligations.HostStepsKeepTheTickBounds := by
  refine ⟨fun s rest g hg hout => ?_, gapAdmits_default⟩
  have hgap : ¬ gapAdmits s.params s.sinceHost = true := hg ▸ not_gapAdmits_of_outside hout
  refine ⟨fun w i hsched hd hhost hfree => ?_, fun i hsched ho hbound => ?_, fun n hsched hfree hn hbound => ?_⟩
  · exact (step_of_schedule hsched).trans (issueTurn_refuses_gap hd hhost hfree hgap)
  · exact (step_of_schedule hsched).trans (clientTurn_refuses_gap ho hbound hgap)
  · exact (step_of_schedule hsched).trans (measureTurn_refuses_gap hfree hn hbound hgap)

/-! ## Repeated accesses (R37) -/

/-- What the block answers to an access taken twice, and its fields after each, are the same. -/
def RepeatsAlike (i : Instr) (s : State) : Prop :=
  ∃ t u, exec i s = .next t ∧ exec i t = .next u ∧ u.resp = t.resp ∧ block u = block t

theorem ovfAfterWrite_ovfAfterWrite (d : Word) (o : Bool) :
    ovfAfterWrite d (ovfAfterWrite d o) = ovfAfterWrite d o := by
  unfold ovfAfterWrite
  split <;> rfl

theorem runAfterWrite_runAfterWrite (d : Word) (r : Bool) :
    runAfterWrite d (runAfterWrite d r) = runAfterWrite d r := by
  unfold runAfterWrite
  split <;> rfl

theorem wrStat_repeatsAlike (d : Word) (s : State) : RepeatsAlike (.wrStat d) s := by
  refine ⟨_, _, rfl, rfl, rfl, ?_⟩
  simp [block, ovfAfterWrite_ovfAfterWrite]

theorem wrCtrl_repeatsAlike (d : Word) (s : State) : RepeatsAlike (.wrCtrl d) s := by
  refine ⟨_, _, rfl, rfl, rfl, ?_⟩
  simp [block, runAfterWrite_runAfterWrite]

/-- Only STAT and CTRL can be changed by an access other than the EDGE read, and each write to them is idempotent; any
other access leaves the block as it is, and so answers from the same block again. -/
theorem hostAccess_repeatsAlike {i : Instr} (s : State) (hhost : agentOf i = .host) (hi : i ≠ .rdEdge) :
    RepeatsAlike i s := by
  cases i with
  | wrStat d => exact wrStat_repeatsAlike d s
  | wrCtrl d => exact wrCtrl_repeatsAlike d s
  | rdCnt | rdStat | rdCtrl | rdPin | wrCnt | wrPin | wrEdge
  | rdUnmappedA | rdUnmappedC | rdUnmappedE | rdOdd | rdByte
  | wrUnmappedA | wrUnmappedC | wrUnmappedE | wrOdd | wrByte =>
    exact ⟨_, _, rfl, rfl, rfl, rfl⟩
  | rdEdge => exact absurd rfl hi
  | tick | inLow | inHigh | reset => cases hhost

/-- A sample equal to the previous one is no edge (R25). -/
theorem edge_bits_of_prev_eq {s : State} (h : s.prev = s.input) :
    (regRead .edge s).getLsbD 1 = false ∧ (regRead .edge s).getLsbD 2 = false := by
  simp only [regRead, edgeData_rise, edgeData_fall, h]
  cases s.input <;> simp [riseOf, fallOf]

/-- Settles O37: the EDGE read leaves PREV equal to IN, so the second one sees no edge and samples the same level. -/
theorem repeatedAccessesAnswerTheSame : Obligations.RepeatedAccessesAnswerTheSame := by
  refine ⟨fun i s hhost hi => hostAccess_repeatsAlike s hhost hi, fun s => ?_⟩
  have hprev : s.sampleInput.prev = s.sampleInput.input := rfl
  exact ⟨_, _, regRead .edge s.sampleInput, rfl, rfl, rfl, rfl, edge_bits_of_prev_eq hprev⟩

end Sys2Proof.Proofs.Memory

/-! PROOFS of spec/30_encoding.md: the decoder and the encoder undo each other (R45 to R47, R49), the reserved labels
are refused at decode (R50, R108), what the assembler's lines give (R53, R54), and that placed bits are the step's
(R56). -/

namespace Sys2Proof.Proofs.Encoding

open Sys2Proof.Machine Sys2Proof.Safety Sys2Proof.Proofs.Scope Sys2Proof.Proofs.Memory

/-! ## Labels as numbers (R45, R47) -/

/-- The value of the SZ bit for a width of access (R45). -/
def sizeBit : Width → Bool
  | .byte => false
  | .word => true

theorem busLabel_toNat (wr : Bool) (wd : Width) (a : Offset) :
    (busLabel wr wd a).toNat = 64 * wr.toNat + 16 * (sizeBit wd).toNat + a.toNat := by
  cases wr <;> cases wd <;> revert a <;> decide

theorem busLabel_sizeBit (wr : Bool) (wd : Width) (a : Offset) : (busLabel wr wd a).getLsbD 4 = sizeBit wd := by
  cases wd with
  | byte => exact size_busLabel_byte wr a
  | word => exact size_busLabel_word wr a

theorem labelClass_toNat (op : Byte) : (labelClass op).toNat = op.toNat / 64 := by
  have := op.isLt
  rw [labelClass, BitVec.extractLsb'_toNat, Nat.shiftRight_eq_div_pow]
  omega

theorem labelClass_eq_iff (op : Byte) (c : BitVec 2) : labelClass op = c ↔ op.toNat / 64 = c.toNat := by
  rw [← labelClass_toNat, BitVec.toNat_inj]

theorem labelOffset_toNat (op : Byte) : (labelOffset op).toNat = op.toNat % 16 := by
  rw [labelOffset, BitVec.extractLsb'_toNat, Nat.shiftRight_zero]

theorem label_getLsbD_iff (op : Byte) (j : Nat) : op.getLsbD j = true ↔ op.toNat / 2 ^ j % 2 = 1 := by
  rw [BitVec.getLsbD, Nat.testBit_eq_decide_div_mod_eq, decide_eq_true_iff]

theorem reservedLabel_iff (op : Byte) :
    reservedLabel op = true ↔
      (0x20 ≤ op.toNat ∧ op.toNat ≤ 0x3F) ∨ (0x60 ≤ op.toNat ∧ op.toNat ≤ 0x7F) ∨ 0x84 ≤ op.toNat := by
  simp only [reservedLabel, Bool.or_eq_true, decide_eq_true_iff, or_assoc]

/-- The labels of one direction with RSV = 0 are the bus labels of that direction. -/
theorem exists_busLabel {op : Byte} {wr : Bool} (hlo : 64 * wr.toNat ≤ op.toNat)
    (hhi : op.toNat < 64 * wr.toNat + 32) : ∃ wd a, op = busLabel wr wd a := by
  by_cases hsz : op.toNat < 64 * wr.toNat + 16
  · refine ⟨.byte, labelOffset op, BitVec.eq_of_toNat_eq ?_⟩
    rw [busLabel_toNat, labelOffset_toNat]
    simp only [sizeBit, Bool.toNat_false]
    omega
  · refine ⟨.word, labelOffset op, BitVec.eq_of_toNat_eq ?_⟩
    rw [busLabel_toNat, labelOffset_toNat]
    simp only [sizeBit, Bool.toNat_true]
    omega

/-- The four defined labels of class event are those of the operations that the host does not take. -/
theorem exists_eventLabel {op : Byte} (hlo : 0x80 ≤ op.toNat) (hhi : op.toNat < 0x84) :
    ∃ i, agentOf i ≠ .host ∧ op = (encode i).label := by
  have hop : op = 0x80#8 ∨ op = 0x81#8 ∨ op = 0x82#8 ∨ op = 0x83#8 := by bv_omega
  obtain rfl | rfl | rfl | rfl := hop
  · exact ⟨.tick, nofun, rfl⟩
  · exact ⟨.inLow, nofun, rfl⟩
  · exact ⟨.inHigh, nofun, rfl⟩
  · exact ⟨.reset, nofun, rfl⟩

/-- Every label is reserved, a bus label or an event's (R55). -/
theorem label_cases (op : Byte) :
    reservedLabel op = true ∨ (∃ wr wd a, op = busLabel wr wd a) ∨ ∃ i, agentOf i ≠ .host ∧ op = (encode i).label := by
  by_cases hres : reservedLabel op = true
  · exact .inl hres
  rw [reservedLabel_iff] at hres
  have hranges : op.toNat < 32 ∨ (64 ≤ op.toNat ∧ op.toNat < 96) ∨ (0x80 ≤ op.toNat ∧ op.toNat < 0x84) := by omega
  obtain hread | ⟨hlo, hhi⟩ | ⟨hlo, hhi⟩ := hranges
  · exact .inr (.inl ⟨false, exists_busLabel (Nat.zero_le _) hread⟩)
  · exact .inr (.inl ⟨true, exists_busLabel hlo hhi⟩)
  · exact .inr (.inr (exists_eventLabel hlo hhi))

/-! ## What decode answers on each kind of label (R49) -/

theorem decode_busRead (wd : Width) (a : Offset) (d : Option Word) :
    decode ⟨busLabel false wd a, d⟩ = withoutData d (decodeRead (sizeBit wd) a) := by
  simp [decode, ← busLabel_sizeBit false wd a]

theorem decode_busWrite_missing (wd : Width) (a : Offset) :
    decode ⟨busLabel true wd a, none⟩ = .error .missingData := by
  simp [decode]

theorem decode_readWords (wd : Width) (a : Offset) : decode (readWords wd a) = .ok (decodeRead (sizeBit wd) a) :=
  decode_busRead wd a none

theorem decode_writeWords (wd : Width) (a : Offset) (d : Word) :
    decode (writeWords wd a d) = .ok (decodeWrite (sizeBit wd) a d) := by
  simp [decode, writeWords, ← busLabel_sizeBit true wd a]

theorem decode_eventClass {op : Byte} (hclass : labelClass op = 0b10#2) (d : Option Word) :
    decode ⟨op, d⟩ = (decodeEvent op).bind (withoutData d) := by
  simp only [decode, hclass]
  cases decodeEvent op <;> rfl

theorem decode_event {i : Instr} (hi : agentOf i ≠ .host) (d : Option Word) :
    decode ⟨(encode i).label, d⟩ = withoutData d i := by
  cases i with
  | tick | inLow | inHigh | reset => exact decode_eventClass rfl d
  | _ => exact absurd rfl hi

/-- Above RESET's label, RSV = op[5:3] or op[2] is not 0 (R47). -/
theorem decodeEvent_reserved {op : Byte} (hlo : 0x84 ≤ op.toNat) (hhi : op.toNat < 0xC0) :
    decodeEvent op = .error .reservedEvent := by
  have hbits : (op.extractLsb' 3 3).toNat ≠ 0 ∨ op.getLsbD 2 = true := by
    rw [label_getLsbD_iff, BitVec.extractLsb'_toNat, Nat.shiftRight_eq_div_pow]
    omega
  exact if_pos (hbits.imp_left fun hrsv heq => hrsv (congrArg BitVec.toNat heq))

/-- R50's ranges, split by the class of the label, are refused by the tests that R49 makes of that class. -/
theorem decode_reserved {op : Byte} (h : reservedLabel op = true) (d : Option Word) :
    ∃ e, decode ⟨op, d⟩ = .error e ∧ e.isReservedLabel = true := by
  rw [reservedLabel_iff] at h
  have hbyte := op.isLt
  by_cases hclass : labelClass op = 0b11#2
  · exact ⟨.reservedClass, if_pos hclass, rfl⟩
  have hlt : op.toNat / 64 ≠ 3 := mt (labelClass_eq_iff op 0b11#2).mpr hclass
  by_cases hevent : labelClass op = 0b10#2
  · have hdiv : op.toNat / 64 = 2 := (labelClass_eq_iff op 0b10#2).mp hevent
    have herr := decodeEvent_reserved (op := op) (by omega) (by omega)
    exact ⟨.reservedEvent, by rw [decode_eventClass hevent, herr]; rfl, rfl⟩
  · have hdiv : op.toNat / 64 ≠ 2 := mt (labelClass_eq_iff op 0b10#2).mpr hevent
    have hrsv : op.getLsbD 5 = true := (label_getLsbD_iff op 5).mpr (by omega)
    exact ⟨.reservedBusBit, by rw [decode, if_neg hclass, if_neg hevent, if_pos hrsv], rfl⟩

/-! ## What words that decode are -/

/-- The words that name an operation, and the operation each names. -/
inductive Decodes : StepWords → Instr → Prop
  | read (wd : Width) (a : Offset) : Decodes (readWords wd a) (decodeRead (sizeBit wd) a)
  | write (wd : Width) (a : Offset) (d : Word) : Decodes (writeWords wd a d) (decodeWrite (sizeBit wd) a d)
  | event (i : Instr) (hi : agentOf i ≠ .host) : Decodes (encode i) i

theorem withoutData_ok {d : Option Word} {i j : Instr} (h : withoutData d i = .ok j) : d = none ∧ i = j := by
  cases d with
  | none => exact ⟨rfl, Except.ok.inj h⟩
  | some d => cases h

theorem withoutData_error {d : Option Word} {i : Instr} {e : DecodeError} (h : withoutData d i = .error e) :
    e = .strayData := by
  cases d with
  | none => cases h
  | some d => exact (Except.error.inj h).symm

theorem encode_event {i : Instr} (hi : agentOf i ≠ .host) : encode i = ⟨(encode i).label, none⟩ := by
  cases i with
  | tick | inLow | inHigh | reset => rfl
  | _ => exact absurd rfl hi

/-- Words that decode are of one of the three kinds, by the label's kind and by whether D is there. -/
theorem decodes_of_decode {w : StepWords} {i : Instr} (h : decode w = .ok i) : Decodes w i := by
  obtain ⟨op, d⟩ := w
  obtain hres | ⟨wr, wd, a, rfl⟩ | ⟨j, hj, rfl⟩ := label_cases op
  · obtain ⟨e, he, -⟩ := decode_reserved hres d
    cases he.symm.trans h
  · cases wr with
    | false =>
      obtain ⟨rfl, rfl⟩ := withoutData_ok ((decode_busRead wd a d).symm.trans h)
      exact .read wd a
    | true =>
      cases d with
      | none => cases (decode_busWrite_missing wd a).symm.trans h
      | some d =>
        cases (decode_writeWords wd a d).symm.trans h
        exact .write wd a d
  · obtain ⟨rfl, rfl⟩ := withoutData_ok ((decode_event hj d).symm.trans h)
    exact encode_event hj ▸ .event j hj

/-! ## The round trips -/

theorem decodeRead_odd {a : Offset} (ha : a.getLsbD 0 = true) : decodeRead true a = .rdOdd a := by
  rw [decodeRead, if_neg (by decide), if_pos ha]

theorem decodeWrite_odd {a : Offset} (ha : a.getLsbD 0 = true) (d : Word) : decodeWrite true a d = .wrOdd a d := by
  rw [decodeWrite, if_neg (by decide), if_pos ha]

/-- Settles O1: of the arms R49 takes for the operation's label, only those of odd offsets need its well-formedness. -/
theorem decodeReadsBackEveryEncoding : Obligations.DecodeReadsBackEveryEncoding := by
  intro i hwf
  cases i with
  | rdCnt | rdStat | rdCtrl | rdPin | rdEdge | rdUnmappedA | rdUnmappedC | rdUnmappedE =>
    exact decode_readWords .word _
  | wrCnt d | wrStat d | wrCtrl d | wrPin d | wrEdge d | wrUnmappedA d | wrUnmappedC d | wrUnmappedE d =>
    exact decode_writeWords .word _ d
  | rdOdd a => exact (decode_readWords .word a).trans (congrArg _ (decodeRead_odd hwf))
  | wrOdd a d => exact (decode_writeWords .word a d).trans (congrArg _ (decodeWrite_odd hwf d))
  | rdByte a => exact decode_readWords .byte a
  | wrByte a d => exact decode_writeWords .byte a d
  | tick | inLow | inHigh | reset => rfl

theorem even_offset_cases {a : Offset} (ha : ¬ a.getLsbD 0 = true) :
    a = 0x0#4 ∨ a = 0x2#4 ∨ a = 0x4#4 ∨ a = 0x6#4 ∨ a = 0x8#4 ∨ a = 0xA#4 ∨ a = 0xC#4 ∨ a = 0xE#4 := by
  revert a; decide

theorem wf_encode_decodeRead (wd : Width) (a : Offset) :
    (decodeRead (sizeBit wd) a).wf = true ∧ encode (decodeRead (sizeBit wd) a) = readWords wd a := by
  cases wd with
  | byte => exact ⟨rfl, rfl⟩
  | word =>
    by_cases ha : a.getLsbD 0 = true
    · rw [sizeBit, decodeRead_odd ha]
      exact ⟨ha, rfl⟩
    · obtain rfl | rfl | rfl | rfl | rfl | rfl | rfl | rfl := even_offset_cases ha <;> exact ⟨rfl, rfl⟩

theorem wf_encode_decodeWrite (wd : Width) (a : Offset) (d : Word) :
    (decodeWrite (sizeBit wd) a d).wf = true ∧ encode (decodeWrite (sizeBit wd) a d) = writeWords wd a d := by
  cases wd with
  | byte => exact ⟨rfl, rfl⟩
  | word =>
    by_cases ha : a.getLsbD 0 = true
    · rw [sizeBit, decodeWrite_odd ha]
      exact ⟨ha, rfl⟩
    · obtain rfl | rfl | rfl | rfl | rfl | rfl | rfl | rfl := even_offset_cases ha <;> exact ⟨rfl, rfl⟩

theorem event_wf {i : Instr} (hi : agentOf i ≠ .host) : i.wf = true := by
  cases i with
  | tick | inLow | inHigh | reset => rfl
  | _ => exact absurd rfl hi

/-- Settles O2, by the kind of words that decode. -/
theorem encodeRestoresDecodedWords : Obligations.EncodeRestoresDecodedWords := by
  intro w i h
  obtain ⟨wd, a⟩ | ⟨wd, a, d⟩ | ⟨_, hi⟩ := decodes_of_decode h
  · exact wf_encode_decodeRead wd a
  · exact wf_encode_decodeWrite wd a d
  · exact ⟨event_wf hi, rfl⟩

/-! ## The reserved labels (R50, R108) -/

/-- The converse: where the label is not reserved, `decode` refuses for the sake of D alone. -/
theorem reservedLabel_of_decode {op : Byte} {d : Option Word} {e : DecodeError} (h : decode ⟨op, d⟩ = .error e)
    (he : e.isReservedLabel = true) : reservedLabel op = true := by
  obtain hres | ⟨wr, wd, a, rfl⟩ | ⟨j, hj, rfl⟩ := label_cases op
  · exact hres
  · cases wr with
    | false =>
      obtain rfl := withoutData_error ((decode_busRead wd a d).symm.trans h)
      cases he
    | true =>
      cases d with
      | none => cases (decode_busWrite_missing wd a).symm.trans h; cases he
      | some d => cases (decode_writeWords wd a d).symm.trans h
  · obtain rfl := withoutData_error ((decode_event hj d).symm.trans h)
    cases he

/-- The first numbers, cut into blocks of `n`. -/
theorem range_eq_flatMap_blocks (n m : Nat) :
    List.range (n * m) = (List.range m).flatMap fun b => List.range' (n * b) n := by
  induction m with
  | zero => rfl
  | succ m ih =>
    rw [List.range_succ, List.flatMap_append, ← ih, List.flatMap_singleton, Nat.mul_succ, List.range_eq_range',
      List.range_eq_range', ← List.range'_append_1, Nat.zero_add]

/-- The labels in eight blocks of one value of op[7:5] each: by class and RSV bit the blocks are all defined
or all reserved, but for the one that holds the four events. -/
theorem countP_reserved_blocks :
    (List.range 8).map (fun b => (List.range' (32 * b) 32).countP fun n => reservedLabel (BitVec.ofNat 8 n)) =
      [0, 32, 0, 32, 28, 32, 32, 32] := by
  decide

theorem countP_reservedLabel : (List.range 256).countP (fun n => reservedLabel (BitVec.ofNat 8 n)) = 188 := by
  rw [range_eq_flatMap_blocks 32 8, List.countP_flatMap]
  exact congrArg List.sum countP_reserved_blocks

theorem issueTurn_refuses_undecoded {w : StepWords} {e : DecodeError} {s : State} (hd : decode w = .error e) :
    issueTurn w s = .refused (.undecoded e) := by
  simp only [issueTurn, hd]

/-- Settles O3: a label is refused as reserved in R50's ranges and nowhere else, and the step meets the refusal of
`decode` before anything of the state. -/
theorem reservedLabelsAreRefusedAtDecode : Obligations.ReservedLabelsAreRefusedAtDecode := by
  refine ⟨fun op d => ⟨fun ⟨e, hd, he⟩ => reservedLabel_of_decode hd he, fun h => decode_reserved h d⟩,
    countP_reservedLabel, fun s op d rest hsched hres => ?_⟩
  obtain ⟨e, hd, -⟩ := decode_reserved hres d
  exact ⟨e, (step_of_schedule hsched).trans (issueTurn_refuses_undecoded hd)⟩

/-- Settles O4: the labels are those of the encoder, but for the one with op[5:3] not 0. -/
theorem specLabelsDecodeToTheirOperations : Obligations.SpecLabelsDecodeToTheirOperations := by
  have hback := decodeReadsBackEveryEncoding
  exact ⟨hback .rdCnt rfl, hback (.wrStat 0x0001#16) rfl, hback (.wrCtrl 0x8001#16) rfl, hback .rdEdge rfl,
    hback .rdUnmappedC rfl, hback (.wrOdd 0x5#4 0#16) rfl, hback (.wrByte 0x3#4 1#16) rfl, hback .inHigh rfl,
    hback .reset rfl, rfl⟩

/-! ## The assembler (R51, R53, R54) -/

theorem literal_toNat {n : Nat} (x : BitVec n) : literal n x.toNat = some x.toNat := if_pos x.isLt

theorem literal_wide {n v : Nat} (h : 2 ^ n ≤ v) : literal n v = none := if_neg (Nat.not_lt.mpr h)

theorem offset_num (a : Offset) : (Target.num a.toNat).offset = some a := by
  rw [Target.offset, literal_toNat, Option.map_some, BitVec.ofNat_toNat, BitVec.setWidth_eq]

/-- A bus label is the label of its direction and width at offset 0, with the offset added. -/
theorem busLabel_eq_add (wr : Bool) (wd : Width) (a : Offset) :
    busLabel wr wd a = busLabel wr wd 0x0#4 + a.setWidth 8 := by
  cases wr <;> cases wd <;> revert a <;> decide

theorem assemble_rdW_num (a : Offset) : assemble (.rdW (.num a.toNat)) = some (readWords .word a) := by
  rw [assemble, offset_num, Option.map_some]

theorem assemble_rdB (a : Offset) : assemble (.rdB a.toNat) = some (readWords .byte a) := by
  rw [assemble, literal_toNat, Option.map_some, BitVec.ofNat_toNat, BitVec.setWidth_eq]

theorem assemble_wrW_num (a : Offset) (v : Word) :
    assemble (.wrW (.num a.toNat) v.toNat) = some (writeWords .word a v) := by
  simp only [assemble, offset_num, literal_toNat, BitVec.ofNat_toNat, BitVec.setWidth_eq]

theorem assemble_wrB (a : Offset) (v : Byte) :
    assemble (.wrB a.toNat v.toNat) = some (writeWords .byte a (v.setWidth 16)) := by
  simp only [assemble, literal_toNat, BitVec.ofNat_toNat, BitVec.setWidth_eq]

/-- A line names its register by the offset alone. -/
theorem offset_reg (r : Reg) : (Target.reg r).offset = (Target.num (regOffset r).toNat).offset := (offset_num _).symm

theorem assemble_wrW_wide (t : Target) {v : Nat} (h : 65536 ≤ v) : assemble (.wrW t v) = none := by
  rw [assemble, literal_wide (n := 16) h]
  cases t.offset <;> rfl

/-- Settles O6: the words of a line are those of its access, and its label is the one at offset 0 with the offset added;
the event lines and the fixed expansions are computed. -/
theorem assemblerLinesGiveTheirLabels : Obligations.AssemblerLinesGiveTheirLabels := by
  refine ⟨fun a => ⟨?_, ?_⟩, fun a v => ?_, fun a v => ?_, fun r v => ⟨?_, ?_⟩, rfl, fun t _ => assemble_wrW_wide t,
    rfl, rfl, rfl, rfl, rfl, rfl, rfl, fun n => ?_⟩
  · rw [assemble_rdW_num, readWords, busLabel_eq_add]; rfl
  · rw [assemble_rdB, readWords, busLabel_eq_add, show busLabel false .byte 0x0#4 = 0x0#8 from rfl, BitVec.zero_add]
  · rw [assemble_wrW_num, writeWords, busLabel_eq_add]; rfl
  · rw [assemble_wrB, writeWords, busLabel_eq_add]; rfl
  · simp only [assemble, offset_reg]
  · simp only [assemble, offset_reg]
  · exact List.map_replicate

/-! ## A word placed in front of the schedule (R56) -/

theorem decode_tableWords {nbits w : Nat} {i : Instr} (h : decodeTableWord nbits w = some i) :
    decode (tableWords nbits w) = .ok i := by
  unfold decodeTableWord at h
  split at h
  · next j hd => rw [hd, Option.some.inj h]
  · cases h

theorem busLabel_bit7 (wr : Bool) (wd : Width) (a : Offset) : (busLabel wr wd a).getLsbD 7 = false := by
  cases wr <;> cases wd <;> revert a <;> decide

/-- The operations whose label has bit 7 clear, classes 0b00 and 0b01, are the host's (R44, R47). -/
theorem encode_bit7_iff (i : Instr) : (encode i).label.getLsbD 7 = false ↔ agentOf i = .host := by
  cases i with
  | tick | inLow | inHigh | reset => exact iff_of_false (by decide) (by decide)
  | _ => simp only [encode, readWords, writeWords, busLabel_bit7, agentOf]

theorem label_bit7_iff {w : StepWords} {i : Instr} (hd : decode w = .ok i) :
    w.label.getLsbD 7 = false ↔ agentOf i = .host :=
  (encodeRestoresDecodedWords w i hd).2 ▸ encode_bit7_iff i

theorem releaseHost_inactive (s : State) : s.releaseHost.client.phase.active = false := by
  unfold State.releaseHost
  split
  · rfl
  · next h => exact Bool.eq_false_iff.mpr h

/-- For a host access the bits are placed in the state with the host set free. -/
theorem withFetchWord_host {nbits w : Nat} {i : Instr} (s : State) (hd : decode (tableWords nbits w) = .ok i)
    (hhost : agentOf i = .host) :
    s.withFetchWord nbits w = s.releaseHost.setSchedule (.issue (tableWords nbits w) :: s.schedule) := by
  rw [State.withFetchWord, State.scheduleFirst, (label_bit7_iff hd).mpr hhost]
  rfl

/-- For an event they are placed in the state as it is. -/
theorem withFetchWord_event {nbits w : Nat} {i : Instr} (s : State) (hd : decode (tableWords nbits w) = .ok i)
    (hevent : agentOf i ≠ .host) :
    s.withFetchWord nbits w = s.setSchedule (.issue (tableWords nbits w) :: s.schedule) :=
  if_pos (Bool.eq_true_of_not_eq_false (mt (label_bit7_iff hd).mp hevent))

/-- Settles O9: the placed words decode, and the state they are placed in leaves a host access free to be taken, so the
step runs them (O7). -/
theorem placedWordRunsNext : Obligations.PlacedWordRunsNext := by
  intro s nbits w i h
  have hd := decode_tableWords h
  by_cases hhost : agentOf i = .host
  · obtain ⟨t, ht, hstep⟩ := stepRunsTheIssuedOperation
      (s.releaseHost.setSchedule (.issue (tableWords nbits w) :: s.schedule)) (tableWords nbits w) s.schedule i rfl hd
      fun _ => ⟨releaseHost_inactive s, rfl⟩
    rw [withFetchWord_host s hd hhost]
    simp only [if_pos hhost] at hstep ⊢
    exact ⟨t, ht, hstep⟩
  · obtain ⟨t, ht, hstep⟩ := stepRunsTheIssuedOperation
      (s.setSchedule (.issue (tableWords nbits w) :: s.schedule)) (tableWords nbits w) s.schedule i rfl hd
      fun hi => absurd hi hhost
    rw [withFetchWord_event s hd hhost]
    simp only [if_neg hhost] at hstep ⊢
    exact ⟨t, ht, hstep⟩

end Sys2Proof.Proofs.Encoding

/-! PROOFS of spec/40_counter.md: what TICK and the accesses to CNT, STAT and CTRL do (R57, R59 to R64), the two
accesses of spec/41_input.md stated with them (R69, R70, R72), the counter arithmetic law (R58, R65), and what the
overflow flag records (R66). -/

namespace Sys2Proof.Proofs.Counter

open Sys2Proof.Machine Sys2Proof.Safety Sys2Proof.Proofs.Scope Sys2Proof.Proofs.BlockState Sys2Proof.Proofs.Encoding

/-! ## TICK (R57) -/

theorem exec_tick_of_running {s : State} (hrun : s.run = true) :
    exec .tick s = .next (((s.setCount (s.count + 1#16)).setOvf (ovfAfterTick s.count s.ovf)).respond none) :=
  if_pos hrun

theorem exec_tick_of_stopped {s : State} (hrun : s.run = false) : exec .tick s = .next (s.respond none) :=
  if_neg (Bool.eq_false_iff.mp hrun)

theorem wrapsAt_eq_true_iff {c : Word} : wrapsAt c = true ↔ c = 0xFFFF#16 := beq_iff_eq

theorem ovfAfterTick_of_wrap {c : Word} (h : wrapsAt c = true) (o : Bool) : ovfAfterTick c o = true := if_pos h

theorem ovfAfterTick_of_no_wrap {c : Word} (h : ¬ wrapsAt c = true) (o : Bool) : ovfAfterTick c o = o := if_neg h

/-- The flag is sticky: a tick only adds the wrap to it. -/
theorem ovfAfterTick_eq_or (c : Word) (o : Bool) : ovfAfterTick c o = (o || wrapsAt c) := by
  by_cases h : wrapsAt c = true
  · rw [ovfAfterTick_of_wrap h, h, Bool.or_true]
  · rw [ovfAfterTick_of_no_wrap h, Bool.eq_false_iff.mpr h, Bool.or_false]

/-- Settles O15: a tick that counts, at the wrap and below it, and one that does not. -/
theorem tickCountsAndSetsOvfOnAWrap : Obligations.TickCountsAndSetsOvfOnAWrap := by
  refine ⟨decodeReadsBackEveryEncoding .tick rfl, rfl, fun s hrun => exec_tick_of_stopped hrun,
    fun s hrun hmax => ?_, fun s hrun hmax => ?_⟩
  · rw [exec_tick_of_running hrun, ovfAfterTick_of_wrap (wrapsAt_eq_true_iff.mpr hmax), hmax,
      show 0xFFFF#16 + 1#16 = 0x0000#16 by decide]
    rfl
  · have hsucc : BitVec.ofNat 16 (s.count.toNat + 1) = s.count + 1#16 := by
      rw [BitVec.ofNat_add, BitVec.ofNat_toNat, BitVec.setWidth_eq]
    rw [exec_tick_of_running hrun, ovfAfterTick_of_no_wrap (mt wrapsAt_eq_true_iff.mp hmax), hsucc]
    rfl

/-! ## The reads (R59, R61, R63, R69) -/

theorem zext16_eq_ite (b : Bool) : zext16 b = if b then 0x0001#16 else 0x0000#16 := by
  cases b with
  | true => exact zext16_true
  | false => exact zext16_false

/-- Settles O16: each read answers the register's read data, a flag or level zero-extended. -/
theorem plainReadsAnswerAndChangeNothing : Obligations.PlainReadsAnswerAndChangeNothing := by
  have hback := decodeReadsBackEveryEncoding
  refine ⟨hback .rdCnt rfl, hback .rdStat rfl, hback .rdCtrl rfl, hback .rdPin rfl, fun s => ?_⟩
  simp only [← zext16_eq_ite]
  exact ⟨rfl, rfl, rfl, rfl⟩

/-! ## The writes (R60, R62, R64, R70, R72) -/

/-- Settles O17: the words are those of the encoder, and none of the three meanings reads D. -/
theorem writesToReadOnlyRegistersChangeNothing : Obligations.WritesToReadOnlyRegistersChangeNothing := by
  intro s d
  have hback := decodeReadsBackEveryEncoding
  exact ⟨hback (.wrCnt d) rfl, hback (.wrPin d) rfl, hback (.wrEdge d) rfl, rfl, rfl, rfl⟩

theorem exec_wrStat (d : Word) (s : State) :
    exec (.wrStat d) s = .next ((s.setOvf (ovfAfterWrite d s.ovf)).respond (some .ok)) := rfl

theorem exec_wrCtrl (d : Word) (s : State) :
    exec (.wrCtrl d) s = .next ((s.setRun (runAfterWrite d s.run)).respond (some .ok)) := rfl

theorem ovfAfterWrite_of_one {d : Word} (h : d.getLsbD 0 = true) (o : Bool) : ovfAfterWrite d o = false := if_pos h

theorem ovfAfterWrite_of_zero {d : Word} (h : d.getLsbD 0 = false) (o : Bool) : ovfAfterWrite d o = o :=
  if_neg (Bool.eq_false_iff.mp h)

theorem runAfterWrite_of_one {d : Word} (h : d.getLsbD 0 = true) (r : Bool) : runAfterWrite d r = true := if_pos h

theorem runAfterWrite_of_zero {d : Word} (h : d.getLsbD 0 = false) (r : Bool) : runAfterWrite d r = r :=
  if_neg (Bool.eq_false_iff.mp h)

/-- Settles O18, by D[0]. -/
theorem statWriteOneClearsOvf : Obligations.StatWriteOneClearsOvf := by
  refine fun s d => ⟨decodeReadsBackEveryEncoding (.wrStat d) rfl, fun hone => ?_, fun hzero => ?_⟩
  · rw [exec_wrStat, ovfAfterWrite_of_one hone]
    rfl
  · rw [exec_wrStat, ovfAfterWrite_of_zero hzero]
    rfl

/-- Settles O19, by D[0]. -/
theorem ctrlWriteOneSetsRun : Obligations.CtrlWriteOneSetsRun := by
  refine fun s d => ⟨decodeReadsBackEveryEncoding (.wrCtrl d) rfl, fun hone => ?_, fun hzero => ?_⟩
  · rw [exec_wrCtrl, runAfterWrite_of_one hone]
    rfl
  · rw [exec_wrCtrl, runAfterWrite_of_zero hzero]
    rfl

/-! ## What one operation does to COUNT, RUN and OVF -/

theorem counts_tick (s : State) : counts .tick s = s.run := by simp [counts]

theorem wraps_tick (s : State) : wraps .tick s = (s.run && wrapsAt s.count) := by rw [wraps, counts_tick]

theorem counts_of_ne_tick {i : Instr} (hi : i ≠ .tick) (s : State) : counts i s = false := by simp [counts, hi]

theorem wraps_of_ne_tick {i : Instr} (hi : i ≠ .tick) (s : State) : wraps i s = false := by
  rw [wraps, counts_of_ne_tick hi, Bool.false_and]

/-- Only TICK and RESET change COUNT (R65). -/
theorem exec_keeps_count {i : Instr} {s t : State} (h : exec i s = .next t) (hreset : i ≠ .reset)
    (htick : i ≠ .tick) : t.count = s.count := by
  obtain ⟨e, heff, hte⟩ := exec_effect h
  rw [hte.count]
  by_contra hne
  obtain ⟨hi, -⟩ | hi := heff.count_writer hne
  · exact htick hi
  · exact hreset hi

/-- Only RESET stops the counter (R64). -/
theorem exec_keeps_running {i : Instr} {s t : State} (h : exec i s = .next t) (hreset : i ≠ .reset)
    (hrun : s.run = true) : t.run = true := by
  obtain ⟨e, heff, hte⟩ := exec_effect h
  rw [hte.run]
  by_contra hne
  obtain ⟨-, -, -, htrue⟩ | ⟨hi, -⟩ := heff.run_writer (by rwa [hrun])
  · exact hne htrue
  · exact hreset hi

/-- Only TICK, RESET and a clear change OVF (R17). -/
theorem exec_keeps_ovf {i : Instr} {s t : State} (h : exec i s = .next t) (hreset : i ≠ .reset)
    (htick : i ≠ .tick) (hclear : clearsOvf i = false) : t.ovf = s.ovf := by
  obtain ⟨e, heff, hte⟩ := exec_effect h
  rw [hte.ovf]
  by_contra hne
  obtain ⟨hi, -⟩ | ⟨d, rfl, hone, -⟩ | hi := heff.ovf_writer hne
  · exact htick hi
  · exact Bool.eq_false_iff.mp hclear hone
  · exact hreset hi

/-- The increment of the 16-bit count, with its carry. -/
theorem succ_toNat_add_carry (c : Word) : (c + 1#16).toNat + 65536 * (wrapsAt c).toNat = c.toNat + 1 := by
  by_cases hmax : c = 0xFFFF#16
  · rw [hmax]; rfl
  · rw [Bool.eq_false_iff.mpr (mt wrapsAt_eq_true_iff.mp hmax), Bool.toNat_false]
    bv_omega

theorem exec_tick_count {s t : State} (h : exec .tick s = .next t) :
    t.count.toNat + 65536 * (wraps .tick s).toNat = s.count.toNat + (counts .tick s).toNat := by
  rw [wraps_tick, counts_tick]
  cases hrun : s.run with
  | true =>
    cases h.symm.trans (exec_tick_of_running hrun)
    simpa using succ_toNat_add_carry s.count
  | false =>
    cases h.symm.trans (exec_tick_of_stopped hrun)
    simp

/-- The count is carried by what counts, and what it loses is the wrap. -/
theorem exec_count {i : Instr} {s t : State} (h : exec i s = .next t) (hreset : i ≠ .reset) :
    t.count.toNat + 65536 * (wraps i s).toNat = s.count.toNat + (counts i s).toNat := by
  by_cases htick : i = .tick
  · subst htick
    exact exec_tick_count h
  · rw [wraps_of_ne_tick htick, counts_of_ne_tick htick, exec_keeps_count h hreset htick, Bool.toNat_false]

theorem exec_tick_ovf {s t : State} (h : exec .tick s = .next t) : t.ovf = (s.ovf || wraps .tick s) := by
  rw [wraps_tick]
  cases hrun : s.run with
  | true =>
    cases h.symm.trans (exec_tick_of_running hrun)
    simp [ovfAfterTick_eq_or]
  | false =>
    cases h.symm.trans (exec_tick_of_stopped hrun)
    simp

/-- Where nothing clears it, the flag adds the wrap. -/
theorem exec_ovf {i : Instr} {s t : State} (h : exec i s = .next t) (hreset : i ≠ .reset)
    (hclear : clearsOvf i = false) : t.ovf = (s.ovf || wraps i s) := by
  by_cases htick : i = .tick
  · subst htick
    exact exec_tick_ovf h
  · rw [wraps_of_ne_tick htick, exec_keeps_ovf h hreset htick hclear, Bool.or_false]

/-! ## Runs of operations with no RESET -/

theorem countOps_cons {i : Instr} {s u : State} (h : exec i s = .next u) (p : Instr → State → Bool)
    (is : List Instr) : countOps p (i :: is) s = (p i s).toNat + countOps p is u := by
  simp only [countOps, afterOp, h, Bool.toNat, Bool.cond_eq_ite]

/-- Along a run the count moves by the ticks that count, less 65536 for each wrap. -/
theorem runOps_count {ops : List Instr} {s t : State} (h : runOps ops s = .next t) (hreset : .reset ∉ ops) :
    t.count.toNat + 65536 * countOps wraps ops s = s.count.toNat + countOps counts ops s := by
  induction ops generalizing s with
  | nil =>
    obtain rfl : s = t := by simpa [runOps] using h
    rfl
  | cons i is ih =>
    obtain ⟨hi, his⟩ := List.ne_and_not_mem_of_not_mem_cons hreset
    obtain ⟨u, hu, hrest⟩ := runOps_cons_next.mp h
    have hstep := exec_count hu hi.symm
    have hrun := ih hrest his
    rw [countOps_cons hu, countOps_cons hu]
    omega

/-- While the counter runs, every TICK counts. -/
theorem countOps_counts_of_running {ops : List Instr} {s : State} (hrun : s.run = true) (hreset : .reset ∉ ops) :
    countOps counts ops s = ops.count .tick := by
  induction ops generalizing s with
  | nil => rfl
  | cons i is ih =>
    obtain ⟨hi, his⟩ := List.ne_and_not_mem_of_not_mem_cons hreset
    obtain ⟨u, hu⟩ := exec_answers i s
    rw [countOps_cons hu, ih (exec_keeps_running hu hi.symm hrun) his, List.count_cons, Nat.add_comm]
    simp [counts, hrun, Bool.toNat, Bool.cond_eq_ite]

/-- Along a run with no clear the flag is its old value, or at least one wrap (R66). -/
theorem runOps_ovf {ops : List Instr} {s t : State} (h : runOps ops s = .next t) (hreset : .reset ∉ ops)
    (hclear : ∀ i ∈ ops, clearsOvf i = false) : t.ovf = (s.ovf || decide (1 ≤ countOps wraps ops s)) := by
  induction ops generalizing s with
  | nil =>
    obtain rfl : s = t := by simpa [runOps] using h
    simp [countOps]
  | cons i is ih =>
    obtain ⟨hi, his⟩ := List.ne_and_not_mem_of_not_mem_cons hreset
    obtain ⟨hci, hcis⟩ := List.forall_mem_cons.mp hclear
    obtain ⟨u, hu, hrest⟩ := runOps_cons_next.mp h
    rw [ih hrest his hcis, exec_ovf hu hi.symm hci, countOps_cons hu]
    cases wraps i s <;> simp

/-- Settles O20: the count of a word is below 65536, so in the law of a run it is the remainder and the wraps are the
quotient. -/
theorem counterArithmeticLaw : Obligations.CounterArithmeticLaw := by
  intro ops s hrun hreset
  obtain ⟨t, ht⟩ := runOps_answers ops s
  have hcount := runOps_count ht hreset
  rw [countOps_counts_of_running hrun hreset] at hcount
  have hlt := t.count.isLt
  have hwraps : countOps wraps ops s = (s.count.toNat + ops.count .tick) / 65536 := by omega
  exact ⟨t, ht, by omega, hwraps, fun hclear => hwraps ▸ runOps_ovf ht hreset hclear⟩

/-- Settles O21: the clear leaves OVF 0, so what the read answers is whether a wrap has been taken since. -/
theorem statReadsAnyWrapSinceTheClear : Obligations.StatReadsAnyWrapSinceTheClear := by
  intro d ops s hone hreset hclear
  obtain ⟨c, hc⟩ := exec_answers (.wrStat d) s
  obtain ⟨t, ht⟩ := runOps_answers ops c
  have hcleared : c.ovf = false := by
    cases hc
    exact ovfAfterWrite_of_one hone s.ovf
  have hovf : t.ovf = decide (1 ≤ countOps wraps ops c) := by
    rw [runOps_ovf ht hreset hclear, hcleared, Bool.false_or]
  refine ⟨c, t, t.respond (some (.okData (zext16 t.ovf))), hc, ht, rfl, ?_⟩
  rw [respond_resp, hovf, zext16_eq_ite]
  simp only [decide_eq_true_iff]

end Sys2Proof.Proofs.Counter

/-! PROOFS of spec/41_input.md: the input events drive the level (R67, R68), an EDGE read compares the level with its
previous sample (R71), and what two reads tell of the transitions between them (R73, R74). -/

namespace Sys2Proof.Proofs.Input

open Sys2Proof.Machine Sys2Proof.Safety Sys2Proof.Proofs.Scope Sys2Proof.Proofs.BlockState Sys2Proof.Proofs.Encoding
open Sys2Proof.Proofs.Counter

/-! ## The input events (R67, R68) -/

theorem exec_inLow (s : State) : exec .inLow s = .next ((s.setInput false).respond none) := rfl

theorem exec_inHigh (s : State) : exec .inHigh s = .next ((s.setInput true).respond none) := rfl

/-- Settles O23: the words are those of the encoder, and the level is all that each event sets. -/
theorem inputEventsDriveTheLevel : Obligations.InputEventsDriveTheLevel :=
  ⟨decodeReadsBackEveryEncoding .inLow rfl, decodeReadsBackEveryEncoding .inHigh rfl, rfl, rfl,
    fun s => ⟨exec_inLow s, exec_inHigh s⟩⟩

/-! ## The EDGE read (R71) -/

theorem exec_rdEdge (s : State) :
    exec .rdEdge s = .next (s.sampleInput.respond (some (.okData (regRead .edge s)))) := rfl

theorem edgeRead_level (s : State) : (regRead .edge s).getLsbD 0 = s.input := edgeData_level _ _ _

theorem edgeRead_rise (s : State) : (regRead .edge s).getLsbD 1 = riseOf s.valid s.prev s.input := edgeData_rise _ _ _

theorem edgeRead_fall (s : State) : (regRead .edge s).getLsbD 2 = fallOf s.valid s.prev s.input := edgeData_fall _ _ _

theorem edgeRead_reserved (s : State) {j : Nat} (hj : 3 ≤ j) : (regRead .edge s).getLsbD j = false :=
  Nat.testBit_lt_two_pow ((edgeData_toNat_lt _ _ _).trans_le (Nat.pow_le_pow_right Nat.two_pos hj))

theorem riseOf_eq_true_iff {valid prev cur : Bool} :
    riseOf valid prev cur = true ↔ valid = true ∧ prev = false ∧ cur = true := by
  simp [riseOf, and_assoc]

theorem fallOf_eq_true_iff {valid prev cur : Bool} :
    fallOf valid prev cur = true ↔ valid = true ∧ prev = true ∧ cur = false := by
  simp [fallOf, and_assoc]

/-- Settles O24: the data is EDGE's read data, taken before the sample is kept. -/
theorem edgeReadComparesAndKeepsTheSample : Obligations.EdgeReadComparesAndKeepsTheSample := by
  refine ⟨decodeReadsBackEveryEncoding .rdEdge rfl, fun s => ⟨regRead .edge s, exec_rdEdge s, edgeRead_level s, ?_, ?_,
    fun _ => edgeRead_reserved s⟩⟩
  · rw [edgeRead_rise, riseOf_eq_true_iff]
  · rw [edgeRead_fall, fallOf_eq_true_iff]

/-- A level that is that of the previous sample shows no edge. -/
theorem edgeRead_of_level_kept {s : State} (h : s.input = s.prev) :
    (regRead .edge s).getLsbD 1 = false ∧ (regRead .edge s).getLsbD 2 = false := by
  rw [edgeRead_rise, edgeRead_fall, h]
  simp [riseOf, fallOf, Bool.and_assoc]

/-- A level that is not that of the previous sample shows one edge, to the new level. -/
theorem edgeRead_of_level_changed {s : State} (hvalid : s.valid = true) (h : s.input = !s.prev) :
    (regRead .edge s).getLsbD 1 = (regRead .edge s).getLsbD 0 ∧
      (regRead .edge s).getLsbD 2 = !(regRead .edge s).getLsbD 0 := by
  rw [edgeRead_rise, edgeRead_fall, edgeRead_level, h, hvalid]
  simp [riseOf, fallOf]

/-! ## The previous sample between EDGE reads (R20) -/

/-- Only EDGE reads and RESET change PREV and VALID. -/
theorem exec_keeps_sample {i : Instr} {s t : State} (h : exec i s = .next t) (hedge : i ≠ .rdEdge)
    (hreset : i ≠ .reset) : t.prev = s.prev ∧ t.valid = s.valid := by
  obtain ⟨e, heff, hte⟩ := exec_effect h
  rw [hte.prev, hte.valid]
  constructor
  · by_contra hne
    exact (heff.prev_writer hne).elim hedge hreset
  · by_contra hne
    exact (heff.valid_writer hne).elim (hedge ·.1) (hreset ·.1)

theorem runOps_keeps_sample {ops : List Instr} {s t : State} (h : runOps ops s = .next t) (hedge : .rdEdge ∉ ops)
    (hreset : .reset ∉ ops) : t.prev = s.prev ∧ t.valid = s.valid := by
  induction ops generalizing s with
  | nil =>
    obtain rfl : s = t := by simpa [runOps] using h
    exact ⟨rfl, rfl⟩
  | cons i is ih =>
    obtain ⟨hie, hise⟩ := List.ne_and_not_mem_of_not_mem_cons hedge
    obtain ⟨hir, hisr⟩ := List.ne_and_not_mem_of_not_mem_cons hreset
    obtain ⟨u, hu, hrest⟩ := runOps_cons_next.mp h
    obtain ⟨hprev, hvalid⟩ := exec_keeps_sample hu hie.symm hir.symm
    obtain ⟨hprev', hvalid'⟩ := ih hrest hise hisr
    exact ⟨hprev'.trans hprev, hvalid'.trans hvalid⟩

/-! ## The level and its transitions -/

/-- Only IN_LOW and IN_HIGH change the level (R19). -/
theorem exec_keeps_input {i : Instr} {s t : State} (h : exec i s = .next t) (hlow : i ≠ .inLow) (hhigh : i ≠ .inHigh) :
    t.input = s.input := by
  obtain ⟨e, heff, hte⟩ := exec_effect h
  rw [hte.input]
  by_contra hne
  exact (heff.input_writer hne).elim (hlow ·.1) (hhigh ·.1)

/-- The level, as a number, goes up by a rising transition and down by a falling one. -/
theorem exec_input {i : Instr} {s t : State} (h : exec i s = .next t) :
    t.input.toNat + (falls i s).toNat = s.input.toNat + (rises i s).toNat := by
  by_cases hlow : i = .inLow
  · subst hlow
    cases h.symm.trans (exec_inLow s)
    simp [falls, rises]
  by_cases hhigh : i = .inHigh
  · subst hhigh
    cases h.symm.trans (exec_inHigh s)
    cases hs : s.input <;> simp [falls, rises, hs]
  rw [exec_keeps_input h hlow hhigh]
  simp [falls, rises, hlow, hhigh]

/-- Along a run, RESETs included, the level moves by the rising transitions less the falling ones. -/
theorem runOps_input {ops : List Instr} {s t : State} (h : runOps ops s = .next t) :
    t.input.toNat + countOps falls ops s = s.input.toNat + countOps rises ops s := by
  induction ops generalizing s with
  | nil =>
    obtain rfl : s = t := by simpa [runOps] using h
    rfl
  | cons i is ih =>
    obtain ⟨u, hu, hrest⟩ := runOps_cons_next.mp h
    have hstep := exec_input hu
    have hrun := ih hrest
    rw [countOps_cons hu, countOps_cons hu]
    omega

/-- A level change is a rising transition or a falling one, and never both. -/
theorem flips_toNat (i : Instr) (s : State) : (flips i s).toNat = (rises i s).toNat + (falls i s).toNat := by
  cases hs : s.input <;> simp [flips, rises, falls, hs]

theorem countOps_flips (ops : List Instr) (s : State) :
    countOps flips ops s = countOps rises ops s + countOps falls ops s := by
  induction ops generalizing s with
  | nil => rfl
  | cons i is ih =>
    obtain ⟨u, hu⟩ := exec_answers i s
    rw [countOps_cons hu, countOps_cons hu, countOps_cons hu, flips_toNat, ih]
    omega

theorem boolToNat_eq_iff (a b : Bool) : a.toNat = b.toNat ↔ a = b := by
  cases a <;> cases b <;> decide

/-- The parity of the level changes is that of the net change. -/
theorem runOps_input_eq_iff {ops : List Instr} {s t : State} (h : runOps ops s = .next t) :
    t.input = s.input ↔ countOps flips ops s % 2 = 0 := by
  have hnet := runOps_input h
  have hs := s.input.toNat_le
  have ht := t.input.toNat_le
  rw [countOps_flips, ← boolToNat_eq_iff]
  omega

/-- Settles O26: the second read compares the level with the first read's sample, which nothing between them writes,
and by parity the two are the same level or not. -/
theorem edgeReadsSeeOnlyTheNetChange : Obligations.EdgeReadsSeeOnlyTheNetChange := by
  intro ops s hedge hreset
  obtain ⟨t, ht⟩ := runOps_answers ops (s.sampleInput.respond (some (.okData (regRead .edge s))))
  obtain ⟨hprev, hvalid⟩ := runOps_keeps_sample ht hedge hreset
  have hsame := runOps_input_eq_iff ht
  refine ⟨_, t, _, regRead .edge t, exec_rdEdge s, ht, exec_rdEdge t, rfl, fun heven => ?_, fun hodd => ?_⟩
  · have hkept := hsame.mpr heven
    exact ⟨hkept, edgeRead_of_level_kept (hkept.trans hprev.symm)⟩
  · have hchanged := Bool.eq_not.mpr (mt hsame.mp (by omega))
    exact ⟨hchanged, edgeRead_of_level_changed hvalid (hchanged.trans (congrArg _ hprev.symm))⟩

/-! ## Two PIN reads (R74) -/

/-- A PIN read answers the level, and leaves it. -/
theorem level_of_pinRead {s t : State} {b : Bool} (h : exec .rdPin s = .next t)
    (hr : t.resp = some (.okData (zext16 b))) : s.input = b ∧ t.input = b := by
  have hb : s.input = b := (zext16_injective (answerRead_data h hr)).symm
  exact ⟨hb, (exec_keeps_input h nofun nofun).trans hb⟩

/-- Settles O27: where the level goes up the rising transitions outnumber the falling ones, and where it goes down the
falling ones do. -/
theorem pinReadPairsProveATransition : Obligations.PinReadPairsProveATransition := by
  intro ops s a t u ha ht hu
  have hnet := runOps_input ht
  simp only [← zext16_true, ← zext16_false]
  constructor
  all_goals
    intro hfirst hsecond
    rw [(level_of_pinRead ha hfirst).2, (level_of_pinRead hu hsecond).1, Bool.toNat_true, Bool.toNat_false] at hnet
    omega

end Sys2Proof.Proofs.Input

/-! PROOFS of spec/45_reference_fsm.md: the client's steps (R79 to R91), its invariant (R77, R78, R84, R87, R90), and
the laws of its runs (R92 to R95, R97, R98). -/

namespace Sys2Proof.Proofs.ReferenceFsm

open Sys2Proof.Machine Sys2Proof.Safety Sys2Proof.Proofs.Scope Sys2Proof.Proofs.BlockState Sys2Proof.Proofs.Memory
open Sys2Proof.Proofs.Encoding Sys2Proof.Proofs.Counter Sys2Proof.Proofs.Input

/-! ## The client's turn, said once (R76, R79, R80) -/

/-- What the block answers to the operation of a phase: the register the phase reads, or that its clear is done. -/
def phaseAnswer (s : State) : Phase → Option Response
  | .clr1 | .clr2 | .clr3 | .clr _ => some .ok
  | .snapStart | .snapEnd => some (.okData s.count)
  | .pinRd _ => some (.okData (zext16 s.input))
  | .ovfRd _ => some (.okData (zext16 s.ovf))
  | .idle | .done | .faulted => s.resp

/-- The state the operation of phase `p` leaves: the flag cleared where it is CLROVF, and the answer given. -/
def served (p : Phase) (s : State) : State :=
  { s with ovf := if p.operation = some clrOvf then false else s.ovf, resp := phaseAnswer s p }

/-- The state the client's turn leaves. -/
def afterClient (s : State) : State := ((served s.client.phase s).setSinceHost (some 0)).advanceClient

section fields
variable (s : State)
@[simp] theorem afterClient_count : (afterClient s).count = s.count := rfl
@[simp] theorem afterClient_ovf :
    (afterClient s).ovf = if s.client.phase.operation = some clrOvf then false else s.ovf := rfl
@[simp] theorem afterClient_input : (afterClient s).input = s.input := rfl
@[simp] theorem afterClient_faults :
    (afterClient s).faults = s.faults ++ s.client.underflow (Response.dataOf (phaseAnswer s s.client.phase)) := rfl
@[simp] theorem afterClient_client :
    (afterClient s).client = s.client.advance s.params (Response.dataOf (phaseAnswer s s.client.phase)) := rfl
@[simp] theorem afterClient_sinceHost : (afterClient s).sinceHost = some 0 := rfl
@[simp] theorem afterClient_params : (afterClient s).params = s.params := rfl
end fields

/-- The client issues host accesses only. -/
theorem agentOf_operation {p : Phase} {i : Instr} (h : p.operation = some i) : agentOf i = .host := by
  cases p with
  | idle | done | faulted => cases h
  | _ => cases h; rfl

/-- An operation of the client writes OVF alone, and that only by CLROVF. -/
theorem exec_operation {p : Phase} {i : Instr} (h : p.operation = some i) (s : State) :
    exec i s = .next (served p s) := by
  cases p with
  | idle | done | faulted => cases h
  | _ => cases h; rfl

theorem runInstr_operation {p : Phase} {i : Instr} (h : p.operation = some i) (s : State) :
    runInstr i s = .next ((served p s).setSinceHost (some 0)) :=
  runInstr_next.mpr ⟨served p s, exec_operation h s, by rw [gapAfter, agentOf_operation h]⟩

/-- When the client's turn is taken, and what it leaves. -/
theorem clientTurn_next_iff {s u : State} :
    clientTurn s = .next u ↔
      s.client.phase.active = true ∧ s.params.measBound ≤ 65535 ∧ gapAdmits s.params s.sinceHost = true ∧
        u = afterClient s := by
  rw [clientTurn_next, Phase.active, Option.isSome_iff_exists]
  constructor
  · rintro ⟨i, t, hi, hm, hg, hr, rfl⟩
    cases hr.symm.trans (runInstr_operation hi s)
    exact ⟨⟨i, hi⟩, hm, hg, rfl⟩
  · rintro ⟨⟨i, hi⟩, hm, hg, rfl⟩
    exact ⟨i, _, hi, hm, hg, runInstr_operation hi s, rfl⟩

/-- A step whose next turn is the client's, with MEAS_BOUND and the gap admitted. -/
theorem step_client {s : State} {rest : List Turn} (hs : s.schedule = .client :: rest)
    (hact : s.client.phase.active = true) (hm : s.params.measBound ≤ 65535)
    (hg : gapAdmits s.params s.sinceHost = true) : step s = .next (afterClient (s.setSchedule rest)) :=
  (step_of_schedule hs).trans (clientTurn_next_iff.mpr ⟨hact, hm, hg, rfl⟩)

/-- Only at SNAP_END may the client record a fault (R88). -/
theorem underflow_of_ne_snapEnd {c : Client} (h : c.phase ≠ .snapEnd) (d : Word) : c.underflow d = [] := by
  unfold Client.underflow
  split
  · contradiction
  · rfl

theorem afterClient_of_phase {s : State} {p : Phase} (hp : s.client.phase = p) (hne : p ≠ .snapEnd) :
    afterClient s = { served p s with
      sinceHost := some 0, client := s.client.advance s.params (Response.dataOf (phaseAnswer s p)) } := by
  subst hp
  simp [afterClient, State.advanceClient, served, State.setSinceHost, underflow_of_ne_snapEnd hne]

/-- The whole next state of a client's step in a phase that cannot record a fault. -/
theorem step_client_of_phase {s : State} {rest : List Turn} {p : Phase} (hs : s.schedule = .client :: rest)
    (hp : s.client.phase = p) (hact : p.active = true) (hne : p ≠ .snapEnd) (hm : s.params.measBound ≤ 65535)
    (hg : gapAdmits s.params s.sinceHost = true) :
    step s = .next { served p s with
      schedule := rest, sinceHost := some 0
      client := s.client.advance s.params (Response.dataOf (phaseAnswer s p)) } := by
  rw [step_client hs (hp ▸ hact) hm hg, afterClient_of_phase (s := s.setSchedule rest) hp hne]
  cases p <;> rfl

/-- Settles O8: the client's turn is its operation, the new gap, and the client's move. -/
theorem stepRunsTheClientsOperation : Obligations.StepRunsTheClientsOperation := by
  intro s rest i hs hi hm hg
  have hact : s.client.phase.active = true := by rw [Phase.active, hi]; rfl
  exact ⟨_, exec_operation hi (s.setSchedule rest), step_client hs hact hm hg⟩

theorem clientTurn_refuses_bound {s : State} (hact : s.client.phase.active = true) (hm : 65535 < s.params.measBound) :
    clientTurn s = .refused .measBoundTooLarge := by
  obtain ⟨i, hi⟩ := Option.isSome_iff_exists.mp hact
  simp only [clientTurn, hi]
  exact if_pos hm

theorem clientTurn_of_inactive {s : State} (h : s.client.phase.active = false) :
    clientTurn s = .refused .clientNotEnabled := by
  rw [Phase.active, Option.isSome_eq_false_iff, Option.isNone_iff_eq_none] at h
  simp only [clientTurn, h]

theorem measureTurn_of_free {n : Word} {s : State} (hfree : s.client.phase.active = false) (hn : n ≠ 0#16) :
    measureTurn n s = clientTurn (s.setClient (s.client.enter n)) := by
  simp only [measureTurn, hfree, Bool.false_eq_true, if_false, if_neg hn]

/-- Settles O40: a free host's call is the client's turn at CLR1, taken, or refused by MEAS_BOUND. -/
theorem measureEntryTakesClr1OrIsRefused : Obligations.MeasureEntryTakesClr1OrIsRefused := by
  intro s n rest hs hfree
  have hfree' : (s.setSchedule rest).client.phase.active = false := hfree
  rw [step_of_schedule hs, takeTurn]
  refine ⟨fun hn => ?_, fun hn hm => ?_, fun hn hm hg => ?_⟩
  · simp only [measureTurn, hfree', hn, Bool.false_eq_true, if_false, if_true]
  · rw [measureTurn_of_free hfree' hn]
    exact clientTurn_refuses_bound rfl hm
  · rw [measureTurn_of_free hfree' hn]
    refine clientTurn_next_iff.mpr ⟨rfl, hm, hg, Eq.symm ?_⟩
    exact afterClient_of_phase (s := (s.setSchedule rest).setClient (s.client.enter n)) (p := .clr1) rfl nofun

/-! The client's advance at each phase, as the tables of R79 and R80 give it. -/

section advance
variable {c : Client} {x : Ctx} (p : Params)

theorem advance_clr1 (hp : c.phase = .clr1) (d : Word) : c.advance p d = { c with ov := 0, phase := .pinRd .sl } := by
  simp only [Client.advance, hp]

theorem advance_clr2 (hp : c.phase = .clr2) (d : Word) : c.advance p d = { c with ov := 0, phase := .pinRd .sh } := by
  simp only [Client.advance, hp]

theorem advance_clr3 (hp : c.phase = .clr3) (d : Word) : c.advance p d = { c with ov := 0, phase := .snapStart } := by
  simp only [Client.advance, hp]

theorem advance_snapStart (hp : c.phase = .snapStart) (d : Word) :
    c.advance p d = { c with start := d, k := 0#16, phase := .pinRd .ml } := by
  simp only [Client.advance, hp]

theorem advance_snapEnd (hp : c.phase = .snapEnd) (d : Word) :
    c.advance p d = Client.finish { c with endv := d } := by
  simp only [Client.advance, hp]

theorem advance_pinRd (hp : c.phase = .pinRd x) (b : Bool) :
    c.advance p (zext16 b) = if b = x.target then c.exitWait x else { c with phase := .ovfRd x } := by
  simp only [Client.advance, hp, bit0_zext16]

theorem advance_ovfRd (hp : c.phase = .ovfRd x) (b : Bool) :
    c.advance p (zext16 b) = { c with phase := if b then .clr x else .pinRd x } := by
  simp only [Client.advance, hp, bit0_zext16]

theorem advance_clr (hp : c.phase = .clr x) (d : Word) : c.advance p d = c.countOverflow p x := by
  simp only [Client.advance, hp]

end advance

theorem countOverflow_within {p : Params} {x : Ctx} {c : Client} (h : c.ov + 1 ≤ x.bound p) :
    c.countOverflow p x = { c with ov := c.ov + 1, phase := .pinRd x } := if_neg (Nat.not_lt.mpr h)

theorem countOverflow_past {p : Params} {x : Ctx} {c : Client} (h : x.bound p < c.ov + 1) :
    c.countOverflow p x = { c with ov := c.ov + 1, result := 0#32, phase := .done } := if_pos h

/-- Settles O41: each phase's row of R79's table. -/
theorem straightLinePhasesAdvance : Obligations.StraightLinePhasesAdvance := by
  intro s rest hs hm hg
  refine ⟨fun hp => ?_, fun hp => ?_, fun hp => ?_, fun hp => ?_⟩
  all_goals rw [step_client_of_phase hs hp rfl nofun hm hg]
  · rw [advance_clr1 _ hp]; rfl
  · rw [advance_clr2 _ hp]; rfl
  · rw [advance_clr3 _ hp]; rfl
  · rw [advance_snapStart _ hp]; rfl

/-- Settles O42: the answer's bit is the level, and the exits are R79's. -/
theorem pinTestEndsOrContinuesTheWait : Obligations.PinTestEndsOrContinuesTheWait := by
  intro s rest x hs hm hg hp
  refine ⟨s.client.advance s.params (zext16 s.input), ?_, ?_⟩
  · rw [step_client_of_phase hs hp rfl nofun hm hg, ← zext16_eq_ite]
    rfl
  rw [advance_pinRd _ hp]
  refine ⟨fun hin => if_neg hin, fun hin hx => ?_, fun hin hx => ?_, fun hin hx => ?_, fun hin hx hk => ?_,
    fun hin hx hk => ?_⟩
  all_goals rw [if_pos hin, hx, Client.exitWait]
  · rw [if_pos hk]
  · rw [if_neg (hk ▸ BitVec.lt_irrefl _)]

/-- Settles O43: the flag's bit decides the test, and the bound whether the clear ends the call. -/
theorem flagTestCountsAndAborts : Obligations.FlagTestCountsAndAborts := by
  intro s rest x hs hm hg
  refine ⟨fun hp => ?_, fun hp hov => ?_, fun hp hov => ⟨_, ?_, rfl, clientTurn_of_inactive rfl⟩⟩
  all_goals rw [step_client_of_phase hs hp rfl nofun hm hg]
  · rw [phaseAnswer, dataOf_okData, advance_ovfRd _ hp, ← zext16_eq_ite]
    rfl
  · rw [advance_clr _ hp, countOverflow_within hov]
    rfl
  · rw [advance_clr _ hp, countOverflow_past hov]
    rfl

/-! ## The client's moves, row by row (R79, R80, R86 to R90) -/

/-- What the client's turn makes of its variables in state `s`: one constructor for each row of the tables of R79 and
R80, and for each end of steps 6 and 7. -/
inductive Move (s : State) : Client → Prop
  | clr1 (hp : s.client.phase = .clr1) : Move s { s.client with ov := 0, phase := .pinRd .sl }
  | clr2 (hp : s.client.phase = .clr2) : Move s { s.client with ov := 0, phase := .pinRd .sh }
  | clr3 (hp : s.client.phase = .clr3) : Move s { s.client with ov := 0, phase := .snapStart }
  | snapStart (hp : s.client.phase = .snapStart) :
      Move s { s.client with start := s.count, k := 0#16, phase := .pinRd .ml }
  | offTarget (x : Ctx) (hp : s.client.phase = .pinRd x) (hin : s.input ≠ x.target) :
      Move s { s.client with phase := .ovfRd x }
  | exitSl (hp : s.client.phase = .pinRd .sl) (hin : s.input = false) : Move s { s.client with phase := .clr2 }
  | exitSh (hp : s.client.phase = .pinRd .sh) (hin : s.input = true) : Move s { s.client with phase := .clr3 }
  | exitMl (hp : s.client.phase = .pinRd .ml) (hin : s.input = false) : Move s { s.client with phase := .pinRd .mh }
  | nextPeriod (hp : s.client.phase = .pinRd .mh) (hin : s.input = true) (hk : s.client.k + 1#16 < s.client.n) :
      Move s { s.client with k := s.client.k + 1#16, phase := .pinRd .ml }
  | lastPeriod (hp : s.client.phase = .pinRd .mh) (hin : s.input = true) (hk : ¬ s.client.k + 1#16 < s.client.n) :
      Move s { s.client with k := s.client.k + 1#16, phase := .snapEnd }
  | flagClear (x : Ctx) (hp : s.client.phase = .ovfRd x) (hovf : s.ovf = false) :
      Move s { s.client with phase := .pinRd x }
  | flagSet (x : Ctx) (hp : s.client.phase = .ovfRd x) (hovf : s.ovf = true) :
      Move s { s.client with phase := .clr x }
  | counted (x : Ctx) (hp : s.client.phase = .clr x) (hov : s.client.ov + 1 ≤ x.bound s.params) :
      Move s { s.client with ov := s.client.ov + 1, phase := .pinRd x }
  | aborted (x : Ctx) (hp : s.client.phase = .clr x) (hov : x.bound s.params < s.client.ov + 1) :
      Move s { s.client with ov := s.client.ov + 1, result := 0#32, phase := .done }
  | underflow (hp : s.client.phase = .snapEnd) (hlt : s.count < s.client.start) (hov : s.client.ov = 0) :
      Move s { s.client with endv := s.count, phase := .faulted }
  | corrected (m : Nat) (hp : s.client.phase = .snapEnd) (hlt : s.count < s.client.start) (hov : s.client.ov = m + 1) :
      Move s { s.client with
        endv := s.count, ov := m, result := elapsed m s.client.start s.count, phase := .done }
  | finished (hp : s.client.phase = .snapEnd) (hge : ¬ s.count < s.client.start) :
      Move s { s.client with
        endv := s.count, result := elapsed s.client.ov s.client.start s.count, phase := .done }

theorem exitWait_move {s : State} {x : Ctx} (hp : s.client.phase = .pinRd x) (hin : s.input = x.target) :
    Move s (s.client.exitWait x) := by
  cases x with
  | sl => exact .exitSl hp hin
  | sh => exact .exitSh hp hin
  | ml => exact .exitMl hp hin
  | mh =>
    rw [Client.exitWait]
    split
    case isTrue hk => exact .nextPeriod hp hin hk
    case isFalse hk => exact .lastPeriod hp hin hk

theorem countOverflow_move {s : State} {x : Ctx} (hp : s.client.phase = .clr x) :
    Move s (s.client.countOverflow s.params x) := by
  obtain hov | hov := Nat.lt_or_ge (x.bound s.params) (s.client.ov + 1)
  · exact countOverflow_past hov ▸ .aborted x hp hov
  · exact countOverflow_within hov ▸ .counted x hp hov

theorem finish_move {s : State} (hp : s.client.phase = .snapEnd) :
    Move s (Client.finish { s.client with endv := s.count }) := by
  obtain ⟨hlt, hov, heq⟩ | ⟨m, hlt, hov, heq⟩ | ⟨hge, heq⟩ := Client.finish_cases { s.client with endv := s.count }
  all_goals rw [heq]
  · exact .underflow hp hlt hov
  · exact .corrected m hp hlt hov
  · exact .finished hp hge

/-- The client's turn is one of the moves. -/
theorem afterClient_move {s : State} (hact : s.client.phase.active = true) : Move s (afterClient s).client := by
  rw [afterClient_client]
  cases hp : s.client.phase with
  | clr1 => exact advance_clr1 _ hp _ ▸ .clr1 hp
  | clr2 => exact advance_clr2 _ hp _ ▸ .clr2 hp
  | clr3 => exact advance_clr3 _ hp _ ▸ .clr3 hp
  | snapStart => exact advance_snapStart _ hp _ ▸ .snapStart hp
  | snapEnd => exact advance_snapEnd _ hp _ ▸ finish_move hp
  | pinRd x =>
    rw [phaseAnswer, dataOf_okData, advance_pinRd _ hp]
    split
    case isTrue hin => exact exitWait_move hp hin
    case isFalse hin => exact .offTarget x hp hin
  | ovfRd x =>
    rw [phaseAnswer, dataOf_okData, advance_ovfRd _ hp]
    cases hovf : s.ovf with
    | false => exact .flagClear x hp hovf
    | true => exact .flagSet x hp hovf
  | clr x => exact advance_clr _ hp _ ▸ countOverflow_move hp
  | idle | done | faulted =>
    rw [hp] at hact
    cases hact

theorem clientTurn_move {s u : State} (h : clientTurn s = .next u) : Move s u.client := by
  obtain ⟨hact, -, -, rfl⟩ := clientTurn_next_iff.mp h
  exact afterClient_move hact

/-! ## SNAP_END and the elapsed law (R85 to R88, R91) -/

theorem elapsed_toNat {ov : Nat} (h : ov ≤ 65535) (start endv : Word) :
    (elapsed ov start endv).toNat = ov * 65536 + (endv - start).toNat := by
  have hlt := (endv - start).isLt
  rw [elapsed, BitVec.toNat_ofNat, Nat.mod_eq_of_lt (by omega)]

/-- R91: the correction of R86 is the borrow of the subtraction modulo 65536. -/
theorem finish_result {c : Client} (hov : c.ov ≤ 65535) (hdone : c.finish.phase = .done) :
    (c.finish.result.toNat : Int) = (c.ov : Int) * 65536 + c.endv.toNat - c.start.toNat := by
  obtain ⟨-, -, heq⟩ | ⟨m, hlt, hm, heq⟩ | ⟨hge, heq⟩ := c.finish_cases
  · simp [heq] at hdone
  · rw [heq, elapsed_toNat (by omega), hm]
    bv_omega
  · rw [heq, elapsed_toNat hov]
    bv_omega

theorem finish_endv (c : Client) : c.finish.endv = c.endv := by
  obtain ⟨-, -, heq⟩ | ⟨m, -, -, heq⟩ | ⟨-, heq⟩ := c.finish_cases <;> rw [heq]

theorem finish_start (c : Client) : c.finish.start = c.start := by
  obtain ⟨-, -, heq⟩ | ⟨m, -, -, heq⟩ | ⟨-, heq⟩ := c.finish_cases <;> rw [heq]

theorem finish_of_underflow {c : Client} (h : c.endv < c.start ∧ c.ov = 0) : c.finish.phase = .faulted := by
  simp [Client.finish, h]

theorem finish_of_no_underflow {c : Client} (h : ¬ (c.endv < c.start ∧ c.ov = 0)) :
    c.finish.phase = .done ∧ c.finish.ov = if c.endv < c.start then c.ov - 1 else c.ov := by
  obtain ⟨hlt, hov, -⟩ | ⟨m, hlt, hm, heq⟩ | ⟨hge, heq⟩ := c.finish_cases
  · exact absurd ⟨hlt, hov⟩ h
  · rw [heq, if_pos hlt, hm, Nat.add_sub_cancel]
    exact ⟨rfl, rfl⟩
  · rw [heq, if_neg hge]
    exact ⟨rfl, rfl⟩

theorem afterClient_snapEnd {s : State} (hp : s.client.phase = .snapEnd) :
    (afterClient s).client = Client.finish { s.client with endv := s.count } ∧
      (afterClient s).faults = s.faults ++
        (if s.count < s.client.start ∧ s.client.ov = 0 then [.elapsedUnderflow s.client.start s.count] else []) ∧
      block (afterClient s) = block s := by
  refine ⟨?_, ?_, ?_⟩
  · rw [afterClient_client, advance_snapEnd _ hp, hp]
    rfl
  · rw [afterClient_faults]
    simp [Client.underflow, phaseAnswer, hp]
  · have hkeeps : s.client.phase.operation ≠ some clrOvf := by simp [hp, Phase.operation, clrOvf]
    rw [block, afterClient_ovf, if_neg hkeeps]
    rfl

/-- Settles O44: steps 6 and 7 on the count just read. -/
theorem snapEndGivesTheElapsedTicks : Obligations.SnapEndGivesTheElapsedTicks := by
  intro s rest hs hm hg hp hov
  obtain ⟨hclient, hfaults, hblock⟩ := afterClient_snapEnd (s := s.setSchedule rest) hp
  refine ⟨_, step_client hs (by rw [hp]; rfl) hm hg, ?_⟩
  rw [hclient, hfaults]
  refine ⟨finish_endv _, finish_start _, hblock, fun hunder => ⟨finish_of_underflow hunder, ?_⟩, fun hno => ?_⟩
  · exact congrArg (s.faults ++ ·) (if_pos hunder)
  · obtain ⟨hdone, hov'⟩ := finish_of_no_underflow (c := { s.client with endv := s.count }) hno
    exact ⟨hdone, (congrArg (s.faults ++ ·) (if_neg hno)).trans (List.append_nil _), hov', finish_result hov hdone⟩

/-! ## The client's invariant (R77, R78, R84, R87, R90) -/

/-- The wait context of a phase, if it is one of a wait. -/
def waitOf : Phase → Option Ctx
  | .pinRd x | .ovfRd x | .clr x => some x
  | .idle | .clr1 | .clr2 | .clr3 | .snapStart | .snapEnd | .done | .faulted => none

/-- The part of the invariant that speaks of N and k, and holds under any bounds: N is positive from the call on, k is
below N in step 4, and equal to N at its end. -/
def PeriodsOk (c : Client) : Prop :=
  (c.phase ≠ .idle → c.n ≠ 0#16) ∧ (waitOf c.phase = some .ml ∨ waitOf c.phase = some .mh → c.k < c.n) ∧
    (c.phase = .snapEnd → c.k = c.n)

/-- The part of the invariant that speaks of `ov`, the snapshots and the result. -/
def BoundsOk (p : Params) (c : Client) : Prop :=
  match c.phase with
  | .idle | .clr1 | .clr2 | .clr3 => True
  | .snapStart => c.ov = 0
  | .pinRd x | .ovfRd x | .clr x => c.ov ≤ x.bound p
  | .snapEnd => c.ov ≤ p.measBound
  | .done => c.ov ≤ max p.syncBound p.measBound + 1 ∧ c.result.toNat ≤ p.measBound * 65536 + 65535
  | .faulted => c.ov = 0 ∧ c.endv < c.start

theorem okUnder_iff (p : Params) (c : Client) : Client.okUnder p c ↔ PeriodsOk c ∧ BoundsOk p c := by
  cases hp : c.phase <;> simp [Safety.Client.okUnder, PeriodsOk, BoundsOk, waitOf, hp]
  all_goals tauto

/-- k does not overflow while it is below N. -/
theorem succ_toNat_of_lt {k n : Word} (h : k < n) : (k + 1#16).toNat = k.toNat + 1 := by
  bv_omega

theorem Move.periodsOk {s : State} {c : Client} (h : Move s c) (hs : PeriodsOk s.client) : PeriodsOk c := by
  obtain ⟨hn, hk, -⟩ := hs
  cases h with
  | clr1 hp | clr2 hp | clr3 hp | underflow hp | corrected _ hp | finished hp | exitSl hp | exitSh hp | aborted _ hp =>
    exact ⟨fun _ => hn (by simp [hp]), by simp [waitOf], nofun⟩
  | snapStart hp =>
    have hpos := hn (by simp [hp])
    exact ⟨fun _ => hpos, fun _ => by bv_omega, nofun⟩
  | exitMl hp => exact ⟨fun _ => hn (by simp [hp]), fun _ => hk (by simp [hp, waitOf]), nofun⟩
  | offTarget x hp | flagClear x hp | flagSet x hp | counted x hp =>
    exact ⟨fun _ => hn (by simp [hp]), fun hx => hk (by simpa [hp, waitOf] using hx), nofun⟩
  | nextPeriod hp hin hlt => exact ⟨fun _ => hn (by simp [hp]), fun _ => hlt, nofun⟩
  | lastPeriod hp hin hge =>
    have hlt : s.client.k < s.client.n := hk (by simp [hp, waitOf])
    exact ⟨fun _ => hn (by simp [hp]), by simp [waitOf], fun _ => by bv_omega⟩

theorem elapsed_le (ov : Nat) (start endv : Word) : (elapsed ov start endv).toNat ≤ ov * 65536 + 65535 := by
  have hlt := (endv - start).isLt
  have hmod := Nat.mod_le (ov * 65536 + (endv - start).toNat) (2 ^ 32)
  rw [elapsed, BitVec.toNat_ofNat]
  omega

theorem bound_le_max (p : Params) (x : Ctx) : x.bound p ≤ max p.syncBound p.measBound := by
  cases x <;> simp [Ctx.bound]

theorem Move.boundsOk {s : State} {c : Client} (h : Move s c) (hs : BoundsOk s.params s.client) :
    BoundsOk s.params c := by
  cases h with
  | clr1 hp | clr2 hp => exact Nat.zero_le _
  | clr3 hp => exact rfl
  | snapStart hp =>
    have hov : s.client.ov = 0 := by simpa [BoundsOk, hp] using hs
    exact hov.le.trans (Nat.zero_le _)
  | offTarget x hp | flagClear x hp | flagSet x hp | exitMl hp | nextPeriod hp | lastPeriod hp =>
    simpa [BoundsOk, hp, Ctx.bound] using hs
  | exitSl | exitSh => trivial
  | counted x hp hov => exact hov
  | aborted x hp hov =>
    have hle : s.client.ov ≤ x.bound s.params := by simpa [BoundsOk, hp] using hs
    exact ⟨Nat.succ_le_succ (hle.trans (bound_le_max _ x)), Nat.zero_le _⟩
  | underflow hp hlt hov => exact ⟨hov, hlt⟩
  | corrected m hp hlt hov =>
    have hle : s.client.ov ≤ s.params.measBound := by simpa [BoundsOk, hp] using hs
    have hres := elapsed_le m s.client.start s.count
    simp only [BoundsOk]
    omega
  | finished hp =>
    have hle : s.client.ov ≤ s.params.measBound := by simpa [BoundsOk, hp] using hs
    have hres := elapsed_le s.client.ov s.client.start s.count
    simp only [BoundsOk]
    omega

/-! ## What a turn does to the client -/

/-- What a label that decodes to `i` does in state `s`: the client stays, the gap is counted, the operation is an event
while the client is inside `measure`, and the block changes by the operation. -/
structure Labelled (i : Instr) (s u : State) : Prop where
  client : u.client = s.client
  params : u.params = s.params
  sinceHost : u.sinceHost = gapAfter i s.sinceHost
  event : s.client.phase.active = true → agentOf i ≠ .host
  effect : ∃ v, exec i s = .next v ∧ SameBlock v u

theorem issueTurn_labelled {w : StepWords} {s u : State} (h : issueTurn w s = .next u) :
    ∃ i, decode w = .ok i ∧ Labelled i s u := by
  obtain ⟨i, hd, hfree, hr⟩ := issueTurn_next.mp h
  obtain ⟨t, ht, rfl⟩ := runInstr_next.mp hr
  have hclient : t.client = s.client := exec_keeps_client ht
  have hparams : t.params = s.params := exec_keeps_params ht
  refine ⟨i, hd, hclient, hparams, rfl, fun hact hhost => ?_, t, ht, (SameBlock.setSinceHost_self _ t).symm⟩
  exact Bool.false_ne_true ((hfree hhost).1.symm.trans hact)

theorem clientTurn_keeps_periodsOk {s u : State} (hs : PeriodsOk s.client) (h : clientTurn s = .next u) :
    PeriodsOk u.client := (clientTurn_move h).periodsOk hs

/-- After a call the invariant of N and k holds whatever the client was (R78). -/
theorem measureTurn_periodsOk {n : Word} {s u : State} (h : measureTurn n s = .next u) : PeriodsOk u.client := by
  obtain ⟨-, hn, hc⟩ := measureTurn_next.mp h
  have henter : PeriodsOk (s.client.enter n) := ⟨fun _ => hn, by simp [Client.enter, waitOf], by simp [Client.enter]⟩
  exact clientTurn_keeps_periodsOk (s := s.setClient (s.client.enter n)) henter hc

theorem takeTurn_keeps_periodsOk {x : Turn} {s u : State} (hs : PeriodsOk s.client) (h : takeTurn x s = .next u) :
    PeriodsOk u.client := by
  cases x with
  | issue w =>
    obtain ⟨i, -, hl⟩ := issueTurn_labelled h
    rwa [hl.client]
  | measure n => exact measureTurn_periodsOk h
  | client => exact clientTurn_keeps_periodsOk hs h

theorem clientTurn_keeps_boundsOk {s u : State} (hs : BoundsOk s.params s.client) (h : clientTurn s = .next u) :
    BoundsOk u.params u.client := by
  rw [(clientTurn_keeps_schedule_params h).2]
  exact (clientTurn_move h).boundsOk hs

theorem takeTurn_keeps_boundsOk {x : Turn} {s u : State} (hs : BoundsOk s.params s.client)
    (h : takeTurn x s = .next u) : BoundsOk u.params u.client := by
  cases x with
  | issue w =>
    obtain ⟨i, -, hl⟩ := issueTurn_labelled h
    rwa [hl.client, hl.params]
  | measure n =>
    obtain ⟨-, -, hc⟩ := measureTurn_next.mp h
    exact clientTurn_keeps_boundsOk (s := s.setClient (s.client.enter n)) trivial hc
  | client => exact clientTurn_keeps_boundsOk hs h

theorem takeTurn_keeps_clientOk {x : Turn} {s u : State} (hs : clientOk s) (h : takeTurn x s = .next u) :
    clientOk u := by
  obtain ⟨hperiods, hbounds⟩ := (okUnder_iff _ _).mp hs
  exact (okUnder_iff _ _).mpr ⟨takeTurn_keeps_periodsOk hperiods h, takeTurn_keeps_boundsOk hbounds h⟩

/-- Settles O45: the two parts of the invariant are kept by each of the client's moves, and labels leave the client. -/
theorem clientInvariantIsKeptByEveryStep : Obligations.ClientInvariantIsKeptByEveryStep := by
  intro s t hs hstep
  obtain ⟨x, rest, -, htake⟩ := step_next.mp hstep
  exact takeTurn_keeps_clientOk (s := s.setSchedule rest) hs htake

/-- Settles O46: the phase at reset bounds nothing. -/
theorem clientInvariantHoldsAtReset : Obligations.ClientInvariantHoldsAtReset := trivial

/-! ## Runs of turns -/

/-- What every admitted turn keeps, a run of them keeps. -/
theorem runTurns_keeps {ok : Turn → Prop} {P : State → Prop}
    (hstep : ∀ {x s u}, ok x → P s → takeTurn x s = .next u → P u) {ts : List Turn} {s t : State}
    (hts : ∀ x ∈ ts, ok x) (hs : P s) (h : runTurns ts s = .next t) : P t := by
  induction ts generalizing s with
  | nil =>
    obtain rfl : s = t := by simpa [runTurns] using h
    exact hs
  | cons x ts ih =>
    obtain ⟨hx, hts⟩ := List.forall_mem_cons.mp hts
    obtain ⟨u, hu, hrest⟩ := runTurns_cons_next.mp h
    exact ih hts (hstep hx hs hu) hrest

theorem runTurns_keeps_params {ts : List Turn} {s t : State} (h : runTurns ts s = .next t) : t.params = s.params :=
  runTurns_keeps (ok := fun _ => True) (P := fun a => a.params = s.params)
    (fun _ hs hu => (takeTurn_keeps_schedule_params hu).2.trans hs) (fun _ _ => trivial) rfl h

theorem runTurns_keeps_periodsOk {ts : List Turn} {s t : State} (hs : PeriodsOk s.client)
    (h : runTurns ts s = .next t) : PeriodsOk t.client :=
  runTurns_keeps (ok := fun _ => True) (fun _ => takeTurn_keeps_periodsOk) (fun _ _ => trivial) hs h

theorem runTurns_keeps_clientOk {ts : List Turn} {s t : State} (hs : clientOk s)
    (h : runTurns ts s = .next t) : clientOk t :=
  runTurns_keeps (ok := fun _ => True) (fun _ => takeTurn_keeps_clientOk) (fun _ _ => trivial) hs h

/-- A property of the client that its moves keep is kept by every turn but a call. -/
theorem takeTurn_keeps_client {P : Client → Prop} (hmove : ∀ {s c}, P s.client → Move s c → P c) {x : Turn}
    {s u : State} (hx : isCall x = false) (hs : P s.client) (h : takeTurn x s = .next u) : P u.client := by
  cases x with
  | issue w =>
    obtain ⟨i, -, hl⟩ := issueTurn_labelled h
    rwa [hl.client]
  | measure n => exact nomatch hx
  | client => exact hmove hs (clientTurn_move h)

theorem runTurns_keeps_client {P : Client → Prop} (hmove : ∀ {s c}, P s.client → Move s c → P c) {ts : List Turn}
    {s t : State} (hts : ∀ x ∈ ts, isCall x = false) (hs : P s.client) (h : runTurns ts s = .next t) : P t.client :=
  runTurns_keeps (P := fun a => P a.client) (takeTurn_keeps_client hmove) hts hs h

theorem Move.n_eq {s : State} {c : Client} (h : Move s c) : c.n = s.client.n := by
  cases h <;> rfl

/-- Only a call sets N. -/
theorem runTurns_keeps_n {ts : List Turn} {s t : State} (hts : ∀ x ∈ ts, isCall x = false)
    (h : runTurns ts s = .next t) : t.client.n = s.client.n :=
  runTurns_keeps_client (P := fun c => c.n = s.client.n) (fun hs hmove => hmove.n_eq.trans hs) hts rfl h

/-! ## Counting along a run of turns -/

/-- The test sees of the state only the block. -/
def BlockTest (p : Instr → State → Bool) : Prop := ∀ i s s', SameBlock s s' → p i s = p i s'

theorem blockTest_wraps : BlockTest wraps := fun i s s' h => by
  rw [wraps, wraps, counts, counts, h.run, h.count]

theorem blockTest_rises : BlockTest rises := fun i s s' h => by rw [rises, rises, h.input]

theorem blockTest_falls : BlockTest falls := fun i s s' h => by rw [falls, falls, h.input]

/-- The operation is a TICK. -/
def isTick (i : Instr) (_ : State) : Bool := decide (i = .tick)

theorem blockTest_isTick : BlockTest isTick := fun _ _ _ _ => rfl

theorem countOps_isTick (ops : List Instr) (s : State) : countOps isTick ops s = ops.count .tick := by
  induction ops generalizing s with
  | nil => rfl
  | cons i is ih => simp [countOps, isTick, ih, List.count_cons, Nat.add_comm]

theorem countOps_sameBlock {p : Instr → State → Bool} (hp : BlockTest p) (ops : List Instr) {s s' : State}
    (h : SameBlock s s') : countOps p ops s = countOps p ops s' := by
  induction ops generalizing s s' with
  | nil => rfl
  | cons i is ih =>
    obtain ⟨t, ht⟩ := exec_answers i s
    obtain ⟨t', ht'⟩ := exec_answers i s'
    rw [countOps_cons ht, countOps_cons ht', hp i s s' h, ih (h.exec_next ht ht')]

theorem countOps_opsOf_cons {p : Instr → State → Bool} (hp : BlockTest p) {x : Turn} {ts : List Turn} {i : Instr}
    {s u : State} (ho : opOf x s = some i) (hx : takeTurn x s = .next u) :
    countOps p (opsOf (x :: ts) s) s = (p i s).toNat + countOps p (opsOf ts u) u := by
  obtain ⟨j, v, hj, hv, hvu⟩ := takeTurn_sameBlock hx
  obtain rfl : i = j := Option.some.inj (ho.symm.trans hj)
  rw [opsOf_cons ho hx, countOps_cons hv, countOps_sameBlock hp _ hvu]

/-- A measure of the state that a label raises by no more than the test counts, and that the client's turn does not
raise, is raised along a run without a call by no more than the run's count. -/
theorem runTurns_measure {p : Instr → State → Bool} (hp : BlockTest p) {ok : Turn → Prop} {P : State → Prop}
    {M : State → Nat} (hcall : ∀ {x}, ok x → isCall x = false)
    (hkeep : ∀ {x s u}, ok x → P s → takeTurn x s = .next u → P u)
    (hlabel : ∀ {w i s u}, ok (.issue w) → decode w = .ok i → P s → Labelled i s u → M u ≤ M s + (p i s).toNat)
    (hclient : ∀ {s u}, P s → clientTurn s = .next u → M u ≤ M s) {ts : List Turn} {s t : State}
    (hts : ∀ x ∈ ts, ok x) (hs : P s) (h : runTurns ts s = .next t) : M t ≤ M s + countOps p (opsOf ts s) s := by
  induction ts generalizing s with
  | nil =>
    obtain rfl : s = t := by simpa [runTurns] using h
    exact Nat.le_add_right _ _
  | cons x ts ih =>
    obtain ⟨hx, hts⟩ := List.forall_mem_cons.mp hts
    obtain ⟨u, hu, hrest⟩ := runTurns_cons_next.mp h
    obtain ⟨i, v, ho, -, -⟩ := takeTurn_sameBlock hu
    have htail := ih hts (hkeep hx hs hu) hrest
    rw [countOps_opsOf_cons hp ho hu]
    cases x with
    | issue w =>
      obtain ⟨j, hd, hl⟩ := issueTurn_labelled hu
      obtain rfl : j = i := by simpa [opOf, hd] using ho
      have hone := hlabel hx hd hs hl
      omega
    | measure n => exact nomatch hcall hx
    | client =>
      have hone := hclient hs hu
      omega

/-! ## What a label does to the block -/

theorem Labelled.input {i : Instr} {s u : State} (h : Labelled i s u) :
    u.input.toNat + (falls i s).toNat = s.input.toNat + (rises i s).toNat := by
  obtain ⟨v, hv, hvu⟩ := h.effect
  rw [← hvu.input]
  exact exec_input hv

/-- A label raises the flag by no more than its wrap: a clear only lowers it. -/
theorem Labelled.ovf_le {i : Instr} {s u : State} (h : Labelled i s u) (hreset : i ≠ .reset) :
    u.ovf.toNat ≤ s.ovf.toNat + (wraps i s).toNat := by
  obtain ⟨v, hv, hvu⟩ := h.effect
  rw [← hvu.ovf]
  cases hclear : clearsOvf i with
  | false =>
    rw [exec_ovf hv hreset hclear]
    cases s.ovf <;> simp
  | true =>
    cases i with
    | wrStat d =>
      cases hv
      simp [ovfAfterWrite_of_one (show d.getLsbD 0 = true from hclear)]
    | _ => exact absurd hclear (by simp [clearsOvf])

theorem clearsOvf_of_event {i : Instr} (h : agentOf i ≠ .host) : clearsOvf i = false := by
  cases i with
  | wrStat d => exact absurd rfl h
  | _ => rfl

/-- Inside `measure` no label clears the flag. -/
theorem Labelled.ovf_inside {i : Instr} {s u : State} (h : Labelled i s u) (hreset : i ≠ .reset)
    (hact : s.client.phase.active = true) : u.ovf = (s.ovf || wraps i s) := by
  obtain ⟨v, hv, hvu⟩ := h.effect
  rw [← hvu.ovf]
  exact exec_ovf hv hreset (clearsOvf_of_event (h.event hact))

theorem ne_reset_of_decode {w : StepWords} {i : Instr} (hw : Turn.issue w ≠ .issue (encode .reset))
    (hd : decode w = .ok i) : i ≠ .reset := by
  rintro rfl
  exact hw (congrArg Turn.issue (encodeRestoresDecodedWords w .reset hd).2.symm)

theorem withinCall_iff {x : Turn} : withinCall x = true ↔ isCall x = false ∧ x ≠ .issue (encode .reset) := by
  simp [withinCall]

/-- No turn but RESET's own takes a RESET. -/
theorem opOf_ne_reset {x : Turn} (hx : x ≠ .issue (encode .reset)) (s : State) : opOf x s ≠ some .reset := by
  cases x with
  | issue w =>
    cases hd : decode w with
    | error e => simp [opOf, hd]
    | ok i => simpa [opOf, hd] using ne_reset_of_decode hx hd
  | measure n => exact nofun
  | client => exact fun h => absurd (agentOf_operation h) (by decide)

theorem reset_not_mem_opsOf {ts : List Turn} (hts : ∀ x ∈ ts, x ≠ .issue (encode .reset)) (s : State) :
    .reset ∉ opsOf ts s := by
  induction ts generalizing s with
  | nil => simp [opsOf]
  | cons x ts ih =>
    obtain ⟨hx, hts⟩ := List.forall_mem_cons.mp hts
    simpa [opsOf, opOf_ne_reset hx s] using ih hts _

/-- R58 along a run of turns: the count moves by the ticks that count, less 65536 for each wrap. -/
theorem runTurns_count {ts : List Turn} {s t : State} (hts : ∀ x ∈ ts, x ≠ .issue (encode .reset))
    (h : runTurns ts s = .next t) :
    t.count.toNat + 65536 * countOps wraps (opsOf ts s) s = s.count.toNat + countOps counts (opsOf ts s) s := by
  obtain ⟨u, hu, htu⟩ := runOps_opsOf_sameBlock (SameBlock.refl s) h
  rw [htu.count]
  exact runOps_count hu (reset_not_mem_opsOf hts s)

/-! ## Exactness (R92) -/

/-- The phases from the state SNAP_START leaves on. -/
def pastSnapStart : Phase → Bool
  | .pinRd x | .ovfRd x | .clr x => x == .ml || x == .mh
  | .snapEnd | .done | .faulted => true
  | .idle | .clr1 | .clr2 | .clr3 | .snapStart => false

/-- Past SNAP_START the start snapshot stays as it is. -/
theorem Move.keeps_start {s : State} {c : Client} {a : Word}
    (hs : pastSnapStart s.client.phase = true ∧ s.client.start = a) (h : Move s c) :
    pastSnapStart c.phase = true ∧ c.start = a := by
  obtain ⟨hpast, hstart⟩ := hs
  cases h with
  | clr1 hp | clr2 hp | clr3 hp | snapStart hp | exitSl hp | exitSh hp => simp [pastSnapStart, hp] at hpast
  | offTarget x hp | flagClear x hp | flagSet x hp | counted x hp =>
    exact ⟨by simpa [pastSnapStart, hp] using hpast, hstart⟩
  | exitMl | nextPeriod | lastPeriod | aborted | underflow | corrected | finished => exact ⟨rfl, hstart⟩

/-- Settles O47: the counter's law between the snapshots, and the elapsed law at SNAP_END. -/
theorem resultIsExactUpToMiscountedWraps : Obligations.ResultIsExactUpToMiscountedWraps := by
  intro ts s t u hok hp hstart hts hrun hend hu hdone
  have hcount := runTurns_count (fun x hx => (withinCall_iff.mp (hts x hx)).2) hrun
  have hkept : pastSnapStart t.client.phase = true ∧ t.client.start = s.count :=
    runTurns_keeps_client (P := fun c => pastSnapStart c.phase = true ∧ c.start = s.count) Move.keeps_start
      (fun x hx => (withinCall_iff.mp (hts x hx)).1) ⟨by rw [hp]; rfl, hstart⟩ hrun
  obtain ⟨-, hm, -, rfl⟩ := clientTurn_next_iff.mp hu
  have hov : t.client.ov ≤ t.params.measBound := by
    have hbounds := ((okUnder_iff _ _).mp (runTurns_keeps_clientOk hok hrun)).2
    simpa [BoundsOk, hend] using hbounds
  have hclient := (afterClient_snapEnd hend).1
  have hendv : (afterClient t).client.endv = t.count := hclient ▸ finish_endv _
  have hresult : ((afterClient t).client.result.toNat : Int) =
      (t.client.ov : Int) * 65536 + t.count.toNat - s.count.toNat := by
    rw [hclient] at hdone ⊢
    rw [← hkept.2]
    exact finish_result (c := { t.client with endv := t.count }) (hov.trans hm) hdone
  have hlt := t.count.isLt
  rw [hendv, hstart]
  omega

/-! ## Aborts (R93) -/

/-- The overflows the client has counted, and the one it has still to see. -/
def overflowsSeen (s : State) : Nat := s.client.ov + s.ovf.toNat

/-- The client stands at a clear only with the flag set: between its STAT read and its clear nothing clears it. -/
def ClearsSetFlag (s : State) : Prop := ∀ x, s.client.phase = .clr x → s.ovf = true

theorem clearsSetFlag_of_not_clr {s : State} (h : ∀ x, s.client.phase ≠ .clr x) : ClearsSetFlag s :=
  fun x hx => absurd hx (h x)

/-- The one way to a clear is a STAT read that returned 1. -/
theorem Move.flagSet_of_clr {s : State} {c : Client} {x : Ctx} (h : Move s c) (hx : c.phase = .clr x) :
    s.client.phase = .ovfRd x ∧ s.ovf = true := by
  cases h with
  | flagSet y hp hovf =>
    cases hx
    exact ⟨hp, hovf⟩
  | _ => cases hx

/-- Only a clear counts an overflow. -/
theorem Move.ov_le {s : State} {c : Client} (h : Move s c) :
    c.ov ≤ s.client.ov ∨ ∃ x, s.client.phase = .clr x ∧ c.ov = s.client.ov + 1 := by
  cases h with
  | counted x hp | aborted x hp => exact .inr ⟨x, hp, rfl⟩
  | clr1 | clr2 | clr3 => exact .inl (Nat.zero_le _)
  | corrected m hp hlt hov => exact .inl (hov ▸ Nat.le_succ m)
  | _ => exact .inl le_rfl

/-- A clear that ends the call is past the bound. -/
theorem Move.bound_lt_of_done {s : State} {c : Client} {x : Ctx} (h : Move s c) (hp : s.client.phase = .clr x)
    (hdone : c.phase = .done) : x.bound s.params < s.client.ov + 1 := by
  cases h with
  | aborted y hy hov =>
    obtain rfl : y = x := Phase.clr.inj (hy.symm.trans hp)
    exact hov
  | corrected _ hy | finished hy => cases hy.symm.trans hp
  | _ => cases hdone

theorem takeTurn_keeps_clearsSetFlag {x : Turn} {s u : State} (hx : withinCall x = true) (hs : ClearsSetFlag s)
    (h : takeTurn x s = .next u) : ClearsSetFlag u := by
  obtain ⟨hcall, hreset⟩ := withinCall_iff.mp hx
  cases x with
  | issue w =>
    obtain ⟨i, hd, hl⟩ := issueTurn_labelled h
    intro y hy
    rw [hl.client] at hy
    rw [hl.ovf_inside (ne_reset_of_decode hreset hd) (by rw [hy]; rfl), hs y hy, Bool.true_or]
  | measure n => exact nomatch hcall
  | client =>
    obtain ⟨hact, -, -, rfl⟩ := clientTurn_next_iff.mp h
    intro y hy
    obtain ⟨hp, hovf⟩ := (afterClient_move hact).flagSet_of_clr hy
    simp [hp, hovf, Phase.operation, clrOvf]

theorem afterClient_ovf_le (s : State) : (afterClient s).ovf.toNat ≤ s.ovf.toNat := by
  rw [afterClient_ovf]
  split <;> simp

theorem afterClient_ovf_of_clears {s : State} (h : s.client.phase.operation = some clrOvf) :
    (afterClient s).ovf = false := if_pos h

theorem clientTurn_overflowsSeen_le {s u : State} (hs : ClearsSetFlag s) (h : clientTurn s = .next u) :
    overflowsSeen u ≤ overflowsSeen s := by
  obtain ⟨hact, -, -, rfl⟩ := clientTurn_next_iff.mp h
  unfold overflowsSeen
  obtain hov | ⟨x, hp, hov⟩ := (afterClient_move hact).ov_le
  · exact Nat.add_le_add hov (afterClient_ovf_le s)
  · have hcleared : (afterClient s).ovf = false := afterClient_ovf_of_clears (by rw [hp]; rfl)
    rw [hov, hcleared, hs x hp, Bool.toNat_false, Bool.toNat_true]

/-- Settles O48: what the client has counted and has still to see are wraps, and at an abort they are past the bound. -/
theorem abortNeedsBoundPlusOneWraps : Obligations.AbortNeedsBoundPlusOneWraps := by
  intro ts s t u x hov hovf hclr hts hrun hp hu hdone
  have hseen : overflowsSeen t ≤ overflowsSeen s + countOps wraps (opsOf ts s) s :=
    runTurns_measure blockTest_wraps (fun hx => (withinCall_iff.mp hx).1) takeTurn_keeps_clearsSetFlag
      (fun hx hd _ hl => by
        have hle := hl.ovf_le (ne_reset_of_decode (withinCall_iff.mp hx).2 hd)
        rw [overflowsSeen, overflowsSeen, hl.client]
        omega)
      clientTurn_overflowsSeen_le hts (clearsSetFlag_of_not_clr hclr) hrun
  have hset : t.ovf = true := runTurns_keeps takeTurn_keeps_clearsSetFlag hts (clearsSetFlag_of_not_clr hclr) hrun x hp
  have hbound := (clientTurn_move hu).bound_lt_of_done hp hdone
  have hcount := runTurns_count (fun x hx => (withinCall_iff.mp (hts x hx)).2) hrun
  have hlt := s.count.isLt
  rw [runTurns_keeps_params hrun] at hbound
  simp only [overflowsSeen, hov, hovf, hset, Bool.toNat_true, Bool.toNat_false] at hseen
  omega

/-! ## The synchronization point (R97) -/

/-- What is known of the rise that context SH waits for, in a run that began at the exit of SL: until SH ends it has
been taken if the level is 1, and at CLR3 it has been. -/
def syncRises (b : Bool) (p : Phase) : Nat :=
  if p = .clr2 ∨ waitOf p = some .sh then b.toNat else if p = .clr3 then 1 else 0

theorem syncRises_mono {b b' : Bool} {d : Nat} (h : b'.toNat ≤ b.toNat + d) (p : Phase) :
    syncRises b' p ≤ syncRises b p + d := by
  unfold syncRises
  split_ifs <;> omega

theorem Move.syncRises_le {s : State} {c : Client} (h : Move s c) :
    syncRises s.input c.phase ≤ syncRises s.input s.client.phase := by
  cases h with
  | clr2 hp | offTarget x hp | flagClear x hp | flagSet x hp | counted x hp => simp [syncRises, waitOf, hp]
  | exitSl hp hin | exitSh hp hin => simp [syncRises, waitOf, hp, hin]
  | _ => exact Nat.zero_le _

/-- A label raises the level by no more than the rise it takes. -/
theorem Labelled.input_le {i : Instr} {s u : State} (h : Labelled i s u) :
    u.input.toNat ≤ s.input.toNat + (rises i s).toNat := by
  have hnet := h.input
  omega

/-- A label lowers the level by no more than the fall it takes. -/
theorem Labelled.not_input_le {i : Instr} {s u : State} (h : Labelled i s u) :
    (!u.input).toNat ≤ (!s.input).toNat + (falls i s).toNat := by
  have hnet := h.input
  cases hs : s.input <;> cases hu : u.input <;> simp [hs, hu] at hnet ⊢
  omega

theorem clientTurn_keeps_input {s u : State} (h : clientTurn s = .next u) : u.input = s.input := by
  obtain ⟨-, -, -, rfl⟩ := clientTurn_next_iff.mp h
  exact afterClient_input s

/-- Settles O49: the level is 0 at first and 1 when SH ends. -/
theorem synchronizationSpansARise : Obligations.SynchronizationSpansARise := by
  intro ts s t hp hin hts hrun hend
  have hrises := runTurns_measure (P := fun _ => True) (M := fun a => syncRises a.input a.client.phase)
    blockTest_rises id (fun _ _ _ => trivial)
    (fun _ _ _ hl => by
      simp only [hl.client]
      exact syncRises_mono hl.input_le _)
    (fun _ hu => by
      simp only [clientTurn_keeps_input hu]
      exact (clientTurn_move hu).syncRises_le)
    hts trivial hrun
  simpa [syncRises, waitOf, hp, hin, hend] using hrises

/-! ## The periods spanned (R98) -/

/-- How many transitions of one direction the client's position shows to have been taken since the exit of SH: one for
each period completed, and of the period under way `lo` while the client waits for low and `hi` while it waits for
high. -/
def edgesShown (lo hi : Nat) (c : Client) : Nat :=
  match c.phase with
  | .clr3 | .snapStart => lo
  | .pinRd x | .ovfRd x | .clr x =>
    match x with
    | .sl | .sh => 0
    | .ml => c.k.toNat + lo
    | .mh => c.k.toNat + hi
  | .snapEnd => c.k.toNat
  | .idle | .clr1 | .clr2 | .done | .faulted => 0

theorem edgesShown_mono {lo lo' hi hi' d : Nat} (hlo : lo' ≤ lo + d) (hhi : hi' ≤ hi + d) (c : Client) :
    edgesShown lo' hi' c ≤ edgesShown lo hi c + d := by
  cases hp : c.phase with
  | pinRd x | ovfRd x | clr x => cases x <;> simp only [edgesShown, hp] <;> omega
  | _ => simp only [edgesShown, hp]; omega

theorem succ_toNat_le (k : Word) : (k + 1#16).toNat ≤ k.toNat + 1 := by
  bv_omega

theorem Move.edgesShown_le {lo hi : Nat} {s : State} {c : Client} (h : Move s c) (hlow : s.input = false → hi ≤ lo)
    (hhigh : s.input = true → lo = 0 ∧ 1 ≤ hi) : edgesShown lo hi c ≤ edgesShown lo hi s.client := by
  have hk := succ_toNat_le s.client.k
  cases h with
  | clr1 | clr2 | exitSl | aborted | underflow | corrected | finished => exact Nat.zero_le _
  | clr3 hp | offTarget x hp | flagClear x hp | flagSet x hp | counted x hp => simp [edgesShown, hp]
  | snapStart hp => simp [edgesShown, hp]
  | exitSh hp hin =>
    obtain ⟨hlo, -⟩ := hhigh hin
    simp [edgesShown, hlo]
  | exitMl hp hin =>
    have hle := hlow hin
    simpa [edgesShown, hp] using hle
  | nextPeriod hp hin | lastPeriod hp hin =>
    obtain ⟨hlo, hhi⟩ := hhigh hin
    simp only [edgesShown, hp]
    omega

theorem edgesShown_snapEnd {c : Client} (hc : PeriodsOk c) (hp : c.phase = .snapEnd) (lo hi : Nat) :
    edgesShown lo hi c = c.n.toNat := by
  obtain ⟨-, -, hk⟩ := hc
  simp [edgesShown, hp, hk hp]

/-- Along a run without a call the transitions shown are transitions taken, when of the period under way `lo` and `hi`
grow with the transitions alone and the exits of ML and MH find them as R98 says. -/
theorem runTurns_edgesShown {p : Instr → State → Bool} (hp : BlockTest p) {lo hi : Bool → Nat}
    (hlo : ∀ {i s u}, Labelled i s u → lo u.input ≤ lo s.input + (p i s).toNat)
    (hhi : ∀ {i s u}, Labelled i s u → hi u.input ≤ hi s.input + (p i s).toNat)
    (hlow : hi false ≤ lo false) (hhigh : lo true = 0 ∧ 1 ≤ hi true) {ts : List Turn} {s t : State}
    (hts : ∀ x ∈ ts, isCall x = false) (hrun : runTurns ts s = .next t) :
    edgesShown (lo t.input) (hi t.input) t.client ≤
      edgesShown (lo s.input) (hi s.input) s.client + countOps p (opsOf ts s) s :=
  runTurns_measure (P := fun _ => True) (M := fun a => edgesShown (lo a.input) (hi a.input) a.client) hp id
    (fun _ _ _ => trivial)
    (fun _ _ _ hl => by
      simp only [hl.client]
      exact edgesShown_mono (hlo hl) (hhi hl) _)
    (fun _ hu => by
      simp only [clientTurn_keeps_input hu]
      exact (clientTurn_move hu).edgesShown_le (fun hin => hin ▸ hlow) (fun hin => hin ▸ hhigh))
    hts trivial hrun

/-- Settles O50: each period shows one transition of each direction, and at SNAP_END the periods are N. -/
theorem measurementSpansNPeriods : Obligations.MeasurementSpansNPeriods := by
  intro ts s t hp hin hts hrun hend
  have hn := runTurns_keeps_n hts hrun
  have hrises := runTurns_edgesShown blockTest_rises (lo := fun _ => 0) (hi := Bool.toNat) (fun _ => Nat.zero_le _)
    Labelled.input_le le_rfl ⟨rfl, le_rfl⟩ hts hrun
  have hfalls := runTurns_edgesShown blockTest_falls (lo := fun b => (!b).toNat) (hi := fun _ => 1)
    Labelled.not_input_le (fun _ => Nat.le_add_right _ _) le_rfl ⟨rfl, le_rfl⟩ hts hrun
  refine ⟨hn, ?_⟩
  by_cases hzero : s.client.n = 0#16
  · simp [hzero]
  have hok : PeriodsOk s.client := ⟨fun _ => hzero, by simp [hp, waitOf], by simp [hp]⟩
  rw [edgesShown_snapEnd (runTurns_keeps_periodsOk hok hrun) hend, hn] at hrises hfalls
  exact ⟨by simpa [edgesShown, hp] using hrises, by simpa [edgesShown, hp, hin] using hfalls⟩

/-! ## Ticks between the snapshots (R95) -/

/-- How many of the host steps that end a wait of step 4 have been taken. -/
def exitsTaken (c : Client) : Nat :=
  match c.phase with
  | .pinRd x | .ovfRd x | .clr x =>
    match x with
    | .sl | .sh => 0
    | .ml => 2 * c.k.toNat
    | .mh => 2 * c.k.toNat + 1
  | .snapEnd => 2 * c.k.toNat
  | .idle | .clr1 | .clr2 | .clr3 | .snapStart | .done | .faulted => 0

theorem Move.exitsTaken_le {s : State} {c : Client} (h : Move s c) : exitsTaken c ≤ exitsTaken s.client + 1 := by
  have hk := succ_toNat_le s.client.k
  cases h with
  | offTarget x hp | flagClear x hp | flagSet x hp | counted x hp => simp [exitsTaken, hp]
  | exitMl hp => simp [exitsTaken, hp]
  | nextPeriod hp | lastPeriod hp =>
    simp only [exitsTaken, hp]
    omega
  | _ => exact Nat.zero_le _

/-- A TICK has been taken since the last host step, if there was one. -/
def gapOpen : Option Nat → Nat
  | none => 1
  | some g => min g 1

theorem gapOpen_gapAfter_le (i : Instr) (g : Option Nat) (s : State) :
    gapOpen (gapAfter i g) ≤ gapOpen g + (isTick i s).toNat := by
  rw [gapAfter_eq]
  split_ifs with hhost htick
  · exact Nat.zero_le _
  · cases g <;> simp [gapOpen, isTick, htick]
  · exact Nat.le_add_right _ _

theorem gapOpen_of_admitted {p : Params} {g : Option Nat} (hmin : 1 ≤ p.ticksMin) (h : gapAdmits p g = true) :
    gapOpen g = 1 := by
  cases g with
  | none => rfl
  | some g => exact Nat.min_eq_right (hmin.trans (gapAdmits_some.mp h).1)

theorem clientTurn_gapOpen {s u : State} (hmin : 1 ≤ s.params.ticksMin) (h : clientTurn s = .next u) :
    gapOpen s.sinceHost = 1 ∧ gapOpen u.sinceHost = 0 := by
  obtain ⟨-, -, hgap, rfl⟩ := clientTurn_next_iff.mp h
  exact ⟨gapOpen_of_admitted hmin hgap, congrArg gapOpen (afterClient_sinceHost s)⟩

/-- Settles O51: each exit of a wait, and SNAP_END, needs a TICK of its own. -/
theorem minimumGapForcesTicksBetweenSnapshots : Obligations.MinimumGapForcesTicksBetweenSnapshots := by
  intro ts s t u hmin hp hk hn hgap hts hrun hend hu
  have hticks := runTurns_measure (P := fun a => 1 ≤ a.params.ticksMin)
    (M := fun a => exitsTaken a.client + gapOpen a.sinceHost) blockTest_isTick id
    (fun _ hs hu => (takeTurn_keeps_schedule_params hu).2 ▸ hs)
    (fun {_ i a _} _ _ _ hl => by
      have hle := gapOpen_gapAfter_le i a.sinceHost a
      simp only [hl.client, hl.sinceHost]
      omega)
    (fun hs hu => by
      obtain ⟨hbefore, hafter⟩ := clientTurn_gapOpen hs hu
      have hle := (clientTurn_move hu).exitsTaken_le
      simp only [hbefore, hafter]
      omega)
    hts hmin hrun
  have hok : PeriodsOk s.client := ⟨fun _ => hn, fun _ => by bv_omega, by simp [hp]⟩
  obtain ⟨-, -, hkn⟩ := runTurns_keeps_periodsOk hok hrun
  have hfirst : exitsTaken s.client = 0 := by simp [exitsTaken, hp, hk]
  have hlast : exitsTaken t.client = 2 * s.client.n.toNat := by
    simp [exitsTaken, hend, hkn hend, runTurns_keeps_n hts hrun]
  have hclosed : gapOpen s.sinceHost = 0 := by rw [hgap]; rfl
  have hopen := (clientTurn_gapOpen (runTurns_keeps_params hrun ▸ hmin) hu).1
  rw [countOps_isTick] at hticks
  omega

/-! ## A wait that never ends (R94) -/

/-- The client is in wait `x`, off its target, and nothing will make the counter run or refuse a turn. -/
structure Hanging (x : Ctx) (s : State) : Prop where
  run : s.run = false
  ovf : s.ovf = false
  input : s.input ≠ x.target
  phase : s.client.phase = .pinRd x ∨ s.client.phase = .ovfRd x
  measBound : s.params.measBound ≤ 65535
  ticksMin : s.params.ticksMin = 0
  ticksMax : s.params.ticksMax = none

theorem Hanging.gapAdmits {x : Ctx} {s : State} (h : Hanging x s) : gapAdmits s.params s.sinceHost = true := by
  cases hs : s.sinceHost with
  | none => rfl
  | some g => exact gapAdmits_some.mpr ⟨h.ticksMin ▸ Nat.zero_le g, by simp [h.ticksMax]⟩

theorem Hanging.client {x : Ctx} {s : State} (h : Hanging x s) :
    ∃ u, takeTurn .client s = .next u ∧ Hanging x u ∧ u.client.ov = s.client.ov := by
  have hact : s.client.phase.active = true := by obtain hp | hp := h.phase <;> rw [hp] <;> rfl
  have hnot : s.client.phase.operation ≠ some clrOvf := by
    obtain hp | hp := h.phase <;> simp [hp, Phase.operation, clrOvf]
  have hmoved : ((afterClient s).client.phase = .pinRd x ∨ (afterClient s).client.phase = .ovfRd x) ∧
      (afterClient s).client.ov = s.client.ov := by
    obtain hp | hp := h.phase
    · rw [afterClient_client, hp, phaseAnswer, dataOf_okData, advance_pinRd _ hp, if_neg h.input]
      exact ⟨.inr rfl, rfl⟩
    · rw [afterClient_client, hp, phaseAnswer, dataOf_okData, advance_ovfRd _ hp, h.ovf]
      exact ⟨.inl rfl, rfl⟩
  exact ⟨afterClient s, clientTurn_next_iff.mpr ⟨hact, h.measBound, h.gapAdmits, rfl⟩,
    ⟨h.run, (if_neg hnot).trans h.ovf, h.input, hmoved.1, h.measBound, h.ticksMin, h.ticksMax⟩, hmoved.2⟩

theorem Hanging.tick {x : Ctx} {s : State} (h : Hanging x s) :
    ∃ u, takeTurn (.issue (encode .tick)) s = .next u ∧ Hanging x u ∧ u.client.ov = s.client.ov :=
  ⟨_, issueTurn_takes_decoded (decodeReadsBackEveryEncoding .tick rfl) nofun (exec_tick_of_stopped h.run),
    ⟨h.run, h.ovf, h.input, h.phase, h.measBound, h.ticksMin, h.ticksMax⟩, rfl⟩

theorem Hanging.inputEvent {x : Ctx} {s : State} (h : Hanging x s) :
    ∃ u, takeTurn (.issue (encode (if x.target then .inLow else .inHigh))) s = .next u ∧ Hanging x u ∧
      u.client.ov = s.client.ov := by
  cases hx : x.target with
  | true =>
    exact ⟨_, issueTurn_takes_decoded (decodeReadsBackEveryEncoding .inLow rfl) nofun (exec_inLow s),
      ⟨h.run, h.ovf, by simp [hx], h.phase, h.measBound, h.ticksMin, h.ticksMax⟩, rfl⟩
  | false =>
    exact ⟨_, issueTurn_takes_decoded (decodeReadsBackEveryEncoding .inHigh rfl) nofun (exec_inHigh s),
      ⟨h.run, h.ovf, by simp [hx], h.phase, h.measBound, h.ticksMin, h.ticksMax⟩, rfl⟩

/-- Settles O52, by induction on the turns: each of the three kinds leaves the wait hanging. -/
theorem waitWithoutCounterNeverEnds : Obligations.WaitWithoutCounterNeverEnds := by
  intro ts s x hrun hovf hin hp hm hmin hmax hts
  have hs : Hanging x s := ⟨hrun, hovf, hin, hp, hm, hmin, hmax⟩
  clear hrun hovf hin hp hm hmin hmax
  induction ts generalizing s with
  | nil => exact ⟨s, rfl, hs.phase, rfl, hs.run, hs.ovf⟩
  | cons y ts ih =>
    obtain ⟨hy, hts⟩ := List.forall_mem_cons.mp hts
    obtain ⟨u, hu, hhang, hov⟩ : ∃ u, takeTurn y s = .next u ∧ Hanging x u ∧ u.client.ov = s.client.ov := by
      obtain rfl | rfl | rfl := hy
      · exact hs.client
      · exact hs.tick
      · exact hs.inputEvent
    obtain ⟨t, hrun, hphase, hov', hstopped, hclear⟩ := ih u hts hhang
    exact ⟨t, runTurns_cons_next.mpr ⟨u, hu, hrun⟩, hphase, hov'.trans hov, hstopped, hclear⟩

/-! ## Termination (R93) -/

/-- The client's place in the algorithm, counted down to SNAP_END: it falls with every exit of a wait and with every
straight-line phase. -/
def stepsLeft (c : Client) : Nat :=
  match c.phase with
  | .clr1 => 2 * c.n.toNat + 7
  | .clr2 => 2 * c.n.toNat + 5
  | .clr3 => 2 * c.n.toNat + 3
  | .snapStart => 2 * c.n.toNat + 2
  | .pinRd x | .ovfRd x | .clr x =>
    match x with
    | .sl => 2 * c.n.toNat + 6
    | .sh => 2 * c.n.toNat + 4
    | .ml => 2 * (c.n.toNat - c.k.toNat) + 1
    | .mh => 2 * (c.n.toNat - c.k.toNat)
  | .snapEnd | .idle | .done | .faulted => 0

/-- How many overflows the wait may still count. -/
def overflowsLeft (p : Params) (c : Client) : Nat :=
  match c.phase with
  | .pinRd x | .ovfRd x | .clr x => x.bound p - c.ov
  | .idle | .clr1 | .clr2 | .clr3 | .snapStart | .snapEnd | .done | .faulted => 0

/-- How far the wait is from its next counted overflow: with OVF clear the ticks to the wrap, then the client's steps to
its clear. -/
def flagStepsLeft (s : State) : Nat :=
  match s.client.phase with
  | .pinRd _ => if s.ovf then 2 else 65538 - s.count.toNat
  | .ovfRd _ => if s.ovf then 1 else 65538 - s.count.toNat
  | .clr _ | .idle | .clr1 | .clr2 | .clr3 | .snapStart | .snapEnd | .done | .faulted => 0

/-- The turn that brings the call nearer to its end: the counter's while a wait tests the pin and the flag with OVF
clear, the client's otherwise. -/
def awaitedTurn (s : State) : Turn :=
  match s.client.phase with
  | .pinRd _ | .ovfRd _ => if s.ovf then .client else .issue (encode .tick)
  | .clr _ | .idle | .clr1 | .clr2 | .clr3 | .snapStart | .snapEnd | .done | .faulted => .client

/-- What is left of the call, in the order in which its parts fall. -/
def rank (s : State) : Nat ×ₗ Nat ×ₗ Nat :=
  toLex (stepsLeft s.client, toLex (overflowsLeft s.params s.client, flagStepsLeft s))

theorem rank_lt_of_steps {s u : State} (h : stepsLeft u.client < stepsLeft s.client) : rank u < rank s :=
  Prod.Lex.toLex_lt_toLex.mpr (.inl h)

theorem rank_lt_of_overflows {s u : State} (hsteps : stepsLeft u.client = stepsLeft s.client)
    (h : overflowsLeft u.params u.client < overflowsLeft s.params s.client) : rank u < rank s :=
  Prod.Lex.toLex_lt_toLex.mpr (.inr ⟨hsteps, Prod.Lex.toLex_lt_toLex.mpr (.inl h)⟩)

theorem rank_lt_of_flagSteps {s u : State} (hsteps : stepsLeft u.client = stepsLeft s.client)
    (hov : overflowsLeft u.params u.client = overflowsLeft s.params s.client)
    (h : flagStepsLeft u < flagStepsLeft s) : rank u < rank s :=
  Prod.Lex.toLex_lt_toLex.mpr (.inr ⟨hsteps, Prod.Lex.toLex_lt_toLex.mpr (.inr ⟨hov, h⟩)⟩)

/-- A turn `x` from `s` to `u` lowers the rank, or it is not the awaited one and leaves the rank and what is awaited. -/
def Progress (x : Turn) (s u : State) : Prop :=
  rank u < rank s ∨ (x ≠ awaitedTurn s ∧ rank u = rank s ∧ awaitedTurn u = awaitedTurn s)

/-- Inside a call, with the counter running: what every turn but RESET keeps until the call ends. -/
structure Measuring (s : State) : Prop where
  active : s.client.phase.active = true
  periods : PeriodsOk s.client
  run : s.run = true

/-- The call has ended. -/
def callEnded (s : State) : Prop := s.client.phase = .done ∨ s.client.phase = .faulted

/-- With OVF clear a wait's reads lead nowhere: the client waits for the counter. -/
theorem progress_of_lost_poll {s u : State} {x : Ctx} {p : Phase}
    (hs : s.client.phase = .pinRd x ∨ s.client.phase = .ovfRd x) (hu : p = .pinRd x ∨ p = .ovfRd x)
    (hclient : u.client = { s.client with phase := p }) (hparams : u.params = s.params) (hcount : u.count = s.count)
    (hovf : u.ovf = s.ovf) (hclear : s.ovf = false) : Progress .client s u := by
  refine .inr ⟨?_, ?_, ?_⟩
  · obtain hs | hs := hs <;> simp [awaitedTurn, hs, hclear]
  · obtain hs | hs := hs <;> obtain rfl | rfl := hu <;>
      simp [rank, stepsLeft, overflowsLeft, flagStepsLeft, hs, hclient, hparams, hcount, hovf, hclear]
  · obtain hs | hs := hs <;> obtain rfl | rfl := hu <;> simp [awaitedTurn, hs, hclient, hovf, hclear]

theorem clientTurn_progress {s u : State} (hs : PeriodsOk s.client) (h : clientTurn s = .next u)
    (hu : u.client.phase.active = true) : Progress .client s u := by
  obtain ⟨-, hk, -⟩ := hs
  obtain ⟨hact, -, -, hafter⟩ := clientTurn_next_iff.mp h
  have hmove := clientTurn_move h
  have hparams : u.params = s.params := by rw [hafter, afterClient_params]
  have hcount : u.count = s.count := by rw [hafter, afterClient_count]
  have hovf (hnot : s.client.phase.operation ≠ some clrOvf) : u.ovf = s.ovf := by
    rw [hafter, afterClient_ovf, if_neg hnot]
  generalize hc : u.client = c at hmove
  rw [hc] at hu
  cases hmove with
  | aborted | underflow | corrected | finished => cases hu
  | clr1 hp | clr2 hp | clr3 hp | snapStart hp | exitSl hp | exitSh hp | exitMl hp =>
    exact .inl (rank_lt_of_steps (by simp [hc, hp, stepsLeft]))
  | nextPeriod hp | lastPeriod hp =>
    refine .inl (rank_lt_of_steps ?_)
    have hlt : s.client.k < s.client.n := hk (by simp [hp, waitOf])
    simp only [hc, hp, stepsLeft]
    bv_omega
  | counted x hp hov =>
    refine .inl (rank_lt_of_overflows (by simp [hc, hp, stepsLeft]) ?_)
    simp only [hc, hp, hparams, overflowsLeft]
    omega
  | offTarget x hp =>
    have hsame : u.ovf = s.ovf := hovf (by simp [hp, Phase.operation, clrOvf])
    cases hset : s.ovf with
    | true =>
      exact .inl (rank_lt_of_flagSteps (by simp [hc, hp, stepsLeft]) (by simp [hc, hp, hparams, overflowsLeft])
        (by simp [hc, hp, flagStepsLeft, hsame, hset]))
    | false => exact progress_of_lost_poll (.inl hp) (.inr rfl) hc hparams hcount hsame hset
  | flagClear x hp hset =>
    have hsame : u.ovf = s.ovf := hovf (by simp [hp, Phase.operation, clrOvf])
    exact progress_of_lost_poll (.inr hp) (.inl rfl) hc hparams hcount hsame hset
  | flagSet x hp hset =>
    exact .inl (rank_lt_of_flagSteps (by simp [hc, hp, stepsLeft]) (by simp [hc, hp, hparams, overflowsLeft])
      (by simp [hc, hp, flagStepsLeft, hset]))

/-- Where the client, the count and the flag stay, so do the rank and what is awaited. -/
theorem rank_eq_of_kept {s u : State} (hclient : u.client = s.client) (hparams : u.params = s.params)
    (hcount : u.count = s.count) (hovf : u.ovf = s.ovf) : rank u = rank s ∧ awaitedTurn u = awaitedTurn s := by
  simp [rank, flagStepsLeft, awaitedTurn, hclient, hparams, hcount, hovf]

theorem awaitedTurn_cases (s : State) : awaitedTurn s = .client ∨ awaitedTurn s = .issue (encode .tick) := by
  unfold awaitedTurn
  split
  case h_1 | h_2 => exact ite_eq_or_eq _ _ _
  all_goals exact .inl rfl

/-- An event that is no TICK and no RESET is not awaited, and neither the count nor the flag shows it. -/
theorem Labelled.progress_of_ne_tick {w : StepWords} {i : Instr} {s u : State} (h : Labelled i s u)
    (hd : decode w = .ok i) (hact : s.client.phase.active = true) (hreset : i ≠ .reset) (htick : i ≠ .tick) :
    Progress (.issue w) s u := by
  obtain ⟨v, hv, hvu⟩ := h.effect
  have hcount : u.count = s.count := hvu.count ▸ exec_keeps_count hv hreset htick
  have hovf : u.ovf = s.ovf := hvu.ovf ▸ exec_keeps_ovf hv hreset htick (clearsOvf_of_event (h.event hact))
  refine .inr ⟨fun hw => ?_, rank_eq_of_kept h.client h.params hcount hovf⟩
  obtain hw' | hw' := awaitedTurn_cases s
  · cases hw.trans hw'
  · cases hw.trans hw'
    rw [decodeReadsBackEveryEncoding .tick rfl] at hd
    exact htick (Except.ok.inj hd).symm

theorem Labelled.tick_fields {s u : State} (h : Labelled .tick s u) (hrun : s.run = true) :
    u.count = s.count + 1#16 ∧ u.ovf = (s.ovf || wrapsAt s.count) := by
  obtain ⟨v, hv, hvu⟩ := h.effect
  cases hv.symm.trans (exec_tick_of_running hrun)
  exact ⟨hvu.count.symm, hvu.ovf.symm.trans (ovfAfterTick_eq_or _ _)⟩

/-- With OVF clear, a wait that tests is one tick nearer to the wrap, or the wrap has come. -/
theorem flagStepsLeft_tick {s u : State} {x : Ctx} (hp : s.client.phase = .pinRd x ∨ s.client.phase = .ovfRd x)
    (hclient : u.client = s.client) (hclear : s.ovf = false) (hcount : u.count = s.count + 1#16)
    (hovf : u.ovf = (s.ovf || wrapsAt s.count)) : flagStepsLeft u < flagStepsLeft s := by
  have hcarry := succ_toNat_add_carry s.count
  have hlt := s.count.isLt
  rw [hclear, Bool.false_or] at hovf
  obtain hp | hp := hp
  all_goals
    cases hwrap : wrapsAt s.count <;> rw [hwrap] at hovf hcarry <;>
      simp only [flagStepsLeft, hclient, hp, hclear, hovf, hcount, if_true, if_false, Bool.false_eq_true,
        Bool.toNat_true, Bool.toNat_false] at hcarry ⊢ <;> omega

/-- A tick brings a wait nearer to the wrap where it is awaited, and is lost on the client where it is not. -/
theorem Labelled.progress_of_tick {w : StepWords} {s u : State} (h : Labelled .tick s u) (hrun : s.run = true) :
    Progress (.issue w) s u := by
  obtain ⟨hcount, hovf⟩ := h.tick_fields hrun
  have hsteps : stepsLeft u.client = stepsLeft s.client := by rw [h.client]
  have hov : overflowsLeft u.params u.client = overflowsLeft s.params s.client := by rw [h.client, h.params]
  cases hp : s.client.phase with
  | pinRd x | ovfRd x =>
    cases hclear : s.ovf with
    | false =>
      have hless := flagStepsLeft_tick (x := x) (by simp [hp]) h.client hclear hcount hovf
      exact .inl (rank_lt_of_flagSteps hsteps hov hless)
    | true =>
      rw [hclear, Bool.true_or] at hovf
      exact .inr ⟨by simp [awaitedTurn, hp, hclear],
        by simp [rank, flagStepsLeft, h.client, h.params, hp, hovf, hclear],
        by simp [awaitedTurn, h.client, hp, hovf, hclear]⟩
  | _ => exact .inr ⟨by simp [awaitedTurn, hp], by simp [rank, flagStepsLeft, h.client, h.params, hp],
      by simp [awaitedTurn, h.client, hp]⟩

theorem takeTurn_progress {x : Turn} {s u : State} (hs : Measuring s) (hx : x ≠ .issue (encode .reset))
    (h : takeTurn x s = .next u) (hu : u.client.phase.active = true) : Progress x s u := by
  cases x with
  | issue w =>
    obtain ⟨i, hd, hl⟩ := issueTurn_labelled h
    by_cases htick : i = .tick
    · subst htick
      exact hl.progress_of_tick hs.run
    · exact hl.progress_of_ne_tick hd hs.active (ne_reset_of_decode hx hd) htick
  | measure n =>
    obtain ⟨hfree, -, -⟩ := measureTurn_next.mp h
    exact nomatch hfree.symm.trans hs.active
  | client => exact clientTurn_progress hs.periods h hu

theorem Move.active_or_ended {s : State} {c : Client} (h : Move s c) :
    c.phase.active = true ∨ c.phase = .done ∨ c.phase = .faulted := by
  cases h with
  | aborted | corrected | finished => exact .inr (.inl rfl)
  | underflow => exact .inr (.inr rfl)
  | _ => exact .inl rfl

theorem takeTurn_keeps_running {x : Turn} {s u : State} (hx : x ≠ .issue (encode .reset)) (hrun : s.run = true)
    (h : takeTurn x s = .next u) : u.run = true := by
  obtain ⟨i, v, ho, hv, hvu⟩ := takeTurn_sameBlock h
  have hi : i ≠ .reset := fun hi => opOf_ne_reset hx s (hi ▸ ho)
  exact hvu.run ▸ exec_keeps_running hv hi hrun

/-- A turn that is taken leaves the client inside `measure`, or ends the call, if the client was inside or the turn is
the call. -/
theorem takeTurn_active_or_ended {x : Turn} {s u : State} (hs : (∃ n, x = .measure n) ∨ s.client.phase.active = true)
    (h : takeTurn x s = .next u) : u.client.phase.active = true ∨ callEnded u := by
  cases x with
  | issue w =>
    obtain ⟨i, -, hl⟩ := issueTurn_labelled h
    obtain ⟨n, hn⟩ | hact := hs
    · cases hn
    · exact .inl (hl.client ▸ hact)
  | measure n =>
    obtain ⟨-, -, hc⟩ := measureTurn_next.mp h
    exact (clientTurn_move hc).active_or_ended
  | client => exact (clientTurn_move h).active_or_ended

theorem takeTurn_keeps_measuring {x : Turn} {s u : State} (hs : Measuring s) (hx : x ≠ .issue (encode .reset))
    (h : takeTurn x s = .next u) : Measuring u ∨ callEnded u :=
  (takeTurn_active_or_ended (.inr hs.active) h).imp_left fun hact =>
    ⟨hact, takeTurn_keeps_periodsOk hs.periods h, takeTurn_keeps_running hx hs.run h⟩

/-- A well-founded rank cannot fall for ever: where every step lowers the rank, or is not the awaited one and leaves the
rank and what is awaited, the awaited step does not keep coming. -/
theorem not_always_awaited {T R : Type} [Preorder R] [WellFoundedLT R] (r : Nat → R) (awaited taken : Nat → T)
    (hstep : ∀ n, r (n + 1) < r n ∨ (taken n ≠ awaited n ∧ r (n + 1) = r n ∧ awaited (n + 1) = awaited n)) :
    ¬ ∀ n, ∃ m, n ≤ m ∧ taken m = awaited n := by
  intro hfair
  have hmin (m : Nat) : ¬ r m < r (Function.argmin r) := Function.not_lt_argmin r m
  generalize Function.argmin r = n at hmin
  have hstays (d : Nat) : r (n + d) = r n ∧ awaited (n + d) = awaited n := by
    induction d with
    | zero => exact ⟨rfl, rfl⟩
    | succ d ih =>
      obtain ⟨hr, ha⟩ := ih
      obtain hlt | ⟨-, hr', ha'⟩ := hstep (n + d)
      · exact absurd (hr ▸ hlt) (hmin _)
      · exact ⟨hr'.trans hr, ha'.trans ha⟩
  obtain ⟨m, hm, htaken⟩ := hfair n
  obtain ⟨d, rfl⟩ := Nat.exists_eq_add_of_le hm
  obtain ⟨hr, ha⟩ := hstays d
  obtain hlt | ⟨hne, -⟩ := hstep (n + d)
  · exact hmin _ (hr ▸ hlt)
  · exact hne (htaken.trans ha.symm)

/-- Fairness brings the awaited turn, be it the counter's or the client's, while the call goes on. -/
theorem exists_awaited {wants : Nat → Prop} {σ : Nat → Turn} {f : Nat → State} (hrun : InfiniteRun σ f)
    (hcounter : CounterFair σ f) (hhost : HostFair wants σ f) {a : Nat} (hin : ∀ m, a ≤ m → Measuring (f m)) {n : Nat}
    (hn : a ≤ n) : ∃ m, n ≤ m ∧ σ m = awaitedTurn (f n) := by
  obtain ha | ha := awaitedTurn_cases (f n)
  · obtain ⟨m, hm, hturn⟩ := hhost n fun m hm => .inr (hin m (hn.trans hm)).active
    exact ⟨m, hm, (hostTurn_inside_measure (hin m (hn.trans hm)).active (hrun m) hturn).trans ha.symm⟩
  · obtain ⟨m, hm, hturn⟩ := hcounter n fun m hm => (hin m (hn.trans hm)).run
    exact ⟨m, hm, hturn.trans ha.symm⟩

/-- Settles O53: while the call goes on every turn makes progress and the awaited one keeps coming, so it does not go on
for ever. -/
theorem fairRunsOfMeasureEnd : Obligations.FairRunsOfMeasureEnd := by
  intro wants σ f hrun hcounter hhost hstart hbegin hreset
  by_contra hnone
  have hgoes (n : Nat) : ¬ callEnded (f (n + 1)) := fun hended => hnone ⟨n + 1, Nat.succ_pos n, hended⟩
  have hin (n : Nat) : Measuring (f (n + 1)) := by
    induction n with
    | zero =>
      have hact := (takeTurn_active_or_ended (hbegin.imp_right And.left) (hrun 0)).resolve_right (hgoes 0)
      have hperiods : PeriodsOk (f 1).client := by
        obtain ⟨n, hn⟩ | ⟨-, hok⟩ := hbegin
        · have hcall := hrun 0
          rw [hn] at hcall
          exact measureTurn_periodsOk hcall
        · exact takeTurn_keeps_periodsOk ((okUnder_iff _ _).mp hok).1 (hrun 0)
      exact ⟨hact, hperiods, takeTurn_keeps_running (hreset 0) hstart (hrun 0)⟩
    | succ n ih => exact (takeTurn_keeps_measuring ih (hreset _) (hrun _)).resolve_right (hgoes _)
  have hin' (m : Nat) (hm : 1 ≤ m) : Measuring (f m) := Nat.sub_add_cancel hm ▸ hin (m - 1)
  refine not_always_awaited (fun n => rank (f (n + 1))) (fun n => awaitedTurn (f (n + 1))) (fun n => σ (n + 1))
    (fun n => takeTurn_progress (hin n) (hreset _) (hrun _) (hin (n + 1)).active) fun n => ?_
  obtain ⟨m, hm, hturn⟩ := exists_awaited hrun hcounter hhost hin' (Nat.succ_pos n)
  exact ⟨m - 1, by omega, by rwa [Nat.sub_add_cancel (by omega)]⟩

end Sys2Proof.Proofs.ReferenceFsm

/-! PROOFS of spec/60_exceptions.md: the accesses the block does not admit and the one cause each reports (R103 to
R107), what joins FAULTS and when (R109, R114), the order of steps (R112), and the one host (R118). -/

namespace Sys2Proof.Proofs.Exceptions

open Sys2Proof.Machine Sys2Proof.Safety Sys2Proof.Proofs.BlockState Sys2Proof.Proofs.Scope Sys2Proof.Proofs.Memory
open Sys2Proof.Proofs.Encoding Sys2Proof.Proofs.Counter Sys2Proof.Proofs.Input Sys2Proof.Proofs.ReferenceFsm

/-! ## The cause of an operation, and what it answers (R103) -/

/-- The cause an operation answers ERR with, none where it is no error (R104 to R106). -/
def causeOf : Instr → Option Cause
  | .rdByte _ | .wrByte _ _ => some .width
  | .rdOdd _ | .wrOdd _ _ => some .align
  | .rdUnmappedA | .rdUnmappedC | .rdUnmappedE | .wrUnmappedA _ | .wrUnmappedC _ | .wrUnmappedE _ => some .unmapped
  | .rdCnt | .rdStat | .rdCtrl | .rdPin | .rdEdge | .wrCnt _ | .wrStat _ | .wrCtrl _ | .wrPin _ | .wrEdge _
  | .tick | .inLow | .inHigh | .reset => none

/-- The record of a BusError raised by the access with words `w` (R103). -/
def busErrorRecord (w : StepWords) (c : Cause) : FaultRecord := .busError w.label (labelOffset w.label) w.data c

/-- An operation with a cause raises BusError for its own words. -/
theorem exec_of_cause {i : Instr} {c : Cause} (h : causeOf i = some c) (s : State) :
    exec i s = raiseBusError (encode i) c s := by
  cases i with
  | rdByte | wrByte | rdOdd | wrOdd | rdUnmappedA | rdUnmappedC | rdUnmappedE | wrUnmappedA | wrUnmappedC
  | wrUnmappedE => cases h; rfl
  | _ => cases h

/-- From `s` to `t` nothing is recorded, and the answer in `t` is no ERR. -/
def Unfaulted (s t : State) : Prop := t.faults = s.faults ∧ ∀ c, t.resp ≠ some (.err c)

/-! Each shared outcome, given in a state `s'` with the records of `s`, is unfaulted. -/

theorem answerRead_unfaulted {v : Word} {s s' t : State} (h : answerRead v s' = .next t) (hs : s'.faults = s.faults) :
    Unfaulted s t :=
  answerRead_next.mp h ▸ ⟨hs, nofun⟩

theorem answerWrite_unfaulted {s s' t : State} (h : answerWrite s' = .next t) (hs : s'.faults = s.faults) :
    Unfaulted s t :=
  answerWrite_next.mp h ▸ ⟨hs, nofun⟩

theorem endEvent_unfaulted {s s' t : State} (h : endEvent s' = .next t) (hs : s'.faults = s.faults) : Unfaulted s t :=
  endEvent_next.mp h ▸ ⟨hs, nofun⟩

theorem execTick_unfaulted {s t : State} (h : execTick s = .next t) : Unfaulted s t := by
  unfold execTick at h
  split at h <;> exact endEvent_unfaulted h rfl

/-- An operation without a cause records nothing and answers no ERR. -/
theorem exec_unfaulted {i : Instr} {s t : State} (hc : causeOf i = none) (h : exec i s = .next t) : Unfaulted s t := by
  cases i with
  | tick => exact execTick_unfaulted h
  | inLow | inHigh | reset => exact endEvent_unfaulted h rfl
  | rdCnt | rdStat | rdCtrl | rdPin | rdEdge => exact answerRead_unfaulted h rfl
  | wrCnt | wrStat | wrCtrl | wrPin | wrEdge => exact answerWrite_unfaulted h rfl
  | _ => cases hc

/-- What an operation with a cause leaves. -/
theorem exec_next_of_cause {i : Instr} {c : Cause} {s t : State} (hc : causeOf i = some c) (h : exec i s = .next t) :
    t = (s.recordFault (busErrorRecord (encode i) c)).respond (some (.err c)) :=
  raiseBusError_next.mp (exec_of_cause hc s ▸ h)

/-- ERR is answered by the operations with a cause, and with that cause. -/
theorem causeOf_of_err {i : Instr} {c : Cause} {s t : State} (h : exec i s = .next t) (hr : t.resp = some (.err c)) :
    causeOf i = some c := by
  cases hi : causeOf i with
  | none => exact absurd hr ((exec_unfaulted hi h).2 c)
  | some c' =>
    obtain rfl := exec_next_of_cause hi h
    cases hr
    rfl

/-- Settles O32: ERR is BusError's answer alone, and BusError writes FAULTS and the response only. -/
theorem errorAnswersChangeNoField : Obligations.ErrorAnswersChangeNoField := by
  refine ⟨⟨rfl, rfl, rfl⟩, fun i s t c h hr => ?_⟩
  have hc := causeOf_of_err h hr
  exact ⟨(raiseBusError_sameBlock (exec_of_cause hc s ▸ h)).block_eq, exec_next_of_cause hc h ▸ rfl⟩

/-! ## The error accesses by label (R104 to R106) -/

/-- The whole next state of an operation with a cause, its words and its offset being known. -/
theorem exec_of_words (i : Instr) (s : State) {c : Cause} {op : Byte} {a : Offset} {d : Option Word}
    (hc : causeOf i = some c) (hw : encode i = ⟨op, d⟩) (ha : labelOffset op = a) :
    exec i s = .next { s with faults := s.faults ++ [.busError op a d c], resp := some (.err c) } := by
  rw [exec_of_cause hc, hw, ← ha]
  rfl

/-- The high half of a bus label holds CLS, RSV and SZ (R45). -/
theorem busLabel_eq_append (wr : Bool) (wd : Width) (a : Offset) :
    busLabel wr wd a = BitVec.ofNat 4 (4 * wr.toNat + (sizeBit wd).toNat) ++ a := by
  cases wr <;> cases wd <;> revert a <;> decide

theorem labelOffset_append (high : BitVec 4) (a : Offset) : labelOffset (high ++ a) = a :=
  BitVec.extractLsb'_append_eq_right

theorem readWords_eq_append (wd : Width) (a : Offset) :
    readWords wd a = ⟨BitVec.ofNat 4 (sizeBit wd).toNat ++ a, none⟩ := by
  rw [readWords, busLabel_eq_append, Bool.toNat_false, Nat.mul_zero, Nat.zero_add]

theorem writeWords_eq_append (wd : Width) (a : Offset) (d : Word) :
    writeWords wd a d = ⟨BitVec.ofNat 4 (4 + (sizeBit wd).toNat) ++ a, some d⟩ := by
  rw [writeWords, busLabel_eq_append, Bool.toNat_true, Nat.mul_one]

/-- Settles O28: the words are those of the byte accesses, and each has the cause WIDTH. -/
theorem byteAccessesRaiseWidth : Obligations.ByteAccessesRaiseWidth := by
  refine ⟨rfl, fun s a d => ?_⟩
  have hread : readWords .byte a = ⟨0x0#4 ++ a, none⟩ := readWords_eq_append .byte a
  have hwrite : writeWords .byte a d = ⟨0x4#4 ++ a, some d⟩ := writeWords_eq_append .byte a d
  have hback := decodeReadsBackEveryEncoding
  exact ⟨hread ▸ hback (.rdByte a) rfl, hwrite ▸ hback (.wrByte a d) rfl,
    exec_of_words (.rdByte a) s rfl hread (labelOffset_append _ a),
    exec_of_words (.wrByte a d) s rfl hwrite (labelOffset_append _ a)⟩

theorem offset_bit0_iff (a : Offset) : a.getLsbD 0 = true ↔ a.toNat % 2 = 1 := by
  rw [BitVec.getLsbD, Nat.testBit_zero, decide_eq_true_iff]

/-- Settles O29: an odd offset makes the word access well-formed, and its cause is ALIGN. -/
theorem oddAccessesRaiseAlign : Obligations.OddAccessesRaiseAlign := by
  refine ⟨rfl, fun s a d hodd => ?_⟩
  have hwf : a.getLsbD 0 = true := (offset_bit0_iff a).mpr hodd
  have hread : readWords .word a = ⟨0x1#4 ++ a, none⟩ := readWords_eq_append .word a
  have hwrite : writeWords .word a d = ⟨0x5#4 ++ a, some d⟩ := writeWords_eq_append .word a d
  have hback := decodeReadsBackEveryEncoding
  exact ⟨hread ▸ hback (.rdOdd a) hwf, hwrite ▸ hback (.wrOdd a d) hwf,
    exec_of_words (.rdOdd a) s rfl hread (labelOffset_append _ a),
    exec_of_words (.wrOdd a d) s rfl hwrite (labelOffset_append _ a)⟩

/-- Settles O30: the six labels are the encoder's, and each operation has the cause UNMAPPED. -/
theorem unmappedAccessesRaiseUnmapped : Obligations.UnmappedAccessesRaiseUnmapped := by
  refine ⟨rfl, fun s d => ?_⟩
  have hback := decodeReadsBackEveryEncoding
  exact ⟨hback .rdUnmappedA rfl, hback .rdUnmappedC rfl, hback .rdUnmappedE rfl,
    hback (.wrUnmappedA d) rfl, hback (.wrUnmappedC d) rfl, hback (.wrUnmappedE d) rfl,
    exec_of_words .rdUnmappedA s rfl rfl rfl, exec_of_words .rdUnmappedC s rfl rfl rfl,
    exec_of_words .rdUnmappedE s rfl rfl rfl, exec_of_words (.wrUnmappedA d) s rfl rfl rfl,
    exec_of_words (.wrUnmappedC d) s rfl rfl rfl, exec_of_words (.wrUnmappedE d) s rfl rfl rfl⟩

/-! ## The priority of the causes (R107) -/

/-- The first cause that applies to a bus label, by SZ, then the offset's parity, then its range. -/
def firstCause (op : Byte) : Option Cause :=
  if op.getLsbD 4 = false then some .width
  else if op.getLsbD 0 = true then some .align
  else if 0xA ≤ op.toNat % 16 then some .unmapped
  else none

theorem busLabel_bit0 (wr : Bool) (wd : Width) (a : Offset) : (busLabel wr wd a).getLsbD 0 = a.getLsbD 0 := by
  cases wr <;> cases wd <;> revert a <;> decide

theorem firstCause_byte (wr : Bool) (a : Offset) : firstCause (busLabel wr .byte a) = some .width :=
  if_pos (busLabel_sizeBit wr .byte a)

/-- On a word access the tests are of the offset. -/
theorem firstCause_word (wr : Bool) (a : Offset) :
    firstCause (busLabel wr .word a) =
      if a.getLsbD 0 = true then some .align else if 0xA ≤ a.toNat then some .unmapped else none := by
  have hsz : ¬ (busLabel wr .word a).getLsbD 4 = false := by
    rw [busLabel_sizeBit, sizeBit]
    exact Bool.false_ne_true.symm
  rw [firstCause, if_neg hsz, busLabel_bit0, ← labelOffset_toNat, labelOffset_busLabel]

/-- The tests of R49 come in R107's order. -/
theorem causeOf_decodeRead (wr : Bool) (wd : Width) (a : Offset) :
    causeOf (decodeRead (sizeBit wd) a) = firstCause (busLabel wr wd a) := by
  cases wd with
  | byte => exact (firstCause_byte wr a).symm
  | word =>
    rw [firstCause_word]
    by_cases ha : a.getLsbD 0 = true
    · rw [sizeBit, decodeRead_odd ha, if_pos ha, causeOf]
    · obtain rfl | rfl | rfl | rfl | rfl | rfl | rfl | rfl := even_offset_cases ha <;> rfl

/-- A write has the cause of the read at its offset. -/
theorem causeOf_decodeWrite (sz : Bool) (a : Offset) (d : Word) :
    causeOf (decodeWrite sz a d) = causeOf (decodeRead sz a) := by
  simp only [decodeRead, decodeWrite, apply_ite causeOf]
  rfl

/-- A host access has the first cause that applies to its label. -/
theorem causeOf_of_decode {w : StepWords} {i : Instr} (h : decode w = .ok i) (hhost : agentOf i = .host) :
    causeOf i = firstCause w.label := by
  obtain ⟨wd, a⟩ | ⟨wd, a, d⟩ | ⟨_, hi⟩ := decodes_of_decode h
  · exact causeOf_decodeRead false wd a
  · exact (causeOf_decodeWrite _ a d).trans (causeOf_decodeRead true wd a)
  · exact absurd hhost hi

theorem resp_of_cause {i : Instr} {c : Cause} {s t : State} (h : exec i s = .next t) (hc : causeOf i = some c) :
    t.resp = some (.err c) :=
  exec_next_of_cause hc h ▸ rfl

/-- Settles O31: the operation's cause is the first that applies to the label, and its answer reports it. -/
theorem busErrorCausesFollowThePriority : Obligations.BusErrorCausesFollowThePriority := by
  intro op d i s hd hhost
  obtain ⟨t, ht⟩ := exec_answers i s
  have hc : causeOf i = firstCause op := causeOf_of_decode hd hhost
  refine ⟨t, ht, fun hsz => ?width, fun hsz hodd => ?align, fun hsz hodd hhigh => ?unmapped,
    fun hsz hodd hlow => ?noError⟩
  case width => exact resp_of_cause ht (by rw [hc, firstCause, if_pos hsz])
  case align => exact resp_of_cause ht (by simp only [hc, firstCause, hsz, hodd, reduceCtorEq, if_true, if_false])
  case unmapped =>
    exact resp_of_cause ht (by simp only [hc, firstCause, hsz, hodd, reduceCtorEq, if_pos hhigh, if_false])
  case noError =>
    have hnot : ¬ 0xA ≤ op.toNat % 16 := Nat.not_le.mpr hlow
    exact exec_unfaulted (by simp only [hc, firstCause, hsz, hodd, reduceCtorEq, if_neg hnot, if_false]) ht

/-! ## What a turn records (R109, R114) -/

/-- Only host accesses have a cause. -/
theorem host_of_cause {i : Instr} {c : Cause} (h : causeOf i = some c) : agentOf i = .host := by
  cases i with
  | tick | inLow | inHigh | reset => cases h
  | _ => rfl

/-- A label records what its operation does: one BusError where it has a cause, and then the host was free. -/
theorem issueTurn_faults {w : StepWords} {s u : State} (h : issueTurn w s = .next u) :
    u.faults = s.faults ∨ s.client.phase.active = false ∧ ∃ r, u.faults = s.faults ++ [r] := by
  obtain ⟨i, -, hfree, hr⟩ := issueTurn_next.mp h
  obtain ⟨t, ht, rfl⟩ := runInstr_next.mp hr
  cases hc : causeOf i with
  | none => exact .inl (exec_unfaulted hc ht).1
  | some c =>
    exact .inr ⟨(hfree (host_of_cause hc)).1, busErrorRecord (encode i) c, exec_next_of_cause hc ht ▸ rfl⟩

/-- The client's operations have no cause, so its turn records an ElapsedUnderflow at most. -/
theorem clientTurn_faults {s u : State} (h : clientTurn s = .next u) :
    u.faults = s.faults ∨ ∃ a b, u.faults = s.faults ++ [.elapsedUnderflow a b] := by
  obtain ⟨-, -, -, rfl⟩ := clientTurn_next_iff.mp h
  rw [afterClient_faults]
  obtain hnone | hone := Client.underflow_cases (Response.dataOf (phaseAnswer s s.client.phase)) s.client
  · exact .inl (by rw [hnone, List.append_nil])
  · exact .inr ⟨_, _, by rw [hone]⟩

/-- No turn removes a record, and each adds one at most. -/
theorem takeTurn_faults {x : Turn} {s u : State} (h : takeTurn x s = .next u) :
    u.faults = s.faults ∨ ∃ r, u.faults = s.faults ++ [r] := by
  cases x with
  | issue w => exact (issueTurn_faults h).imp_right And.right
  | measure n => exact (clientTurn_faults (measureTurn_next.mp h).2.2).imp_right fun ⟨a, b, hab⟩ => ⟨_, hab⟩
  | client => exact (clientTurn_faults h).imp_right fun ⟨a, b, hab⟩ => ⟨_, hab⟩

theorem takeTurn_faults_inside_measure {x : Turn} {s u : State} (hact : s.client.phase.active = true)
    (h : takeTurn x s = .next u) : u.faults = s.faults ∨ ∃ a b, u.faults = s.faults ++ [.elapsedUnderflow a b] := by
  cases x with
  | issue w =>
    refine .inl ((issueTurn_faults h).resolve_right fun ⟨hfree, _⟩ => ?_)
    exact Bool.false_ne_true (hfree.symm.trans hact)
  | measure n => exact absurd ((measureTurn_next.mp h).1.symm.trans hact) Bool.false_ne_true
  | client => exact clientTurn_faults h

/-- A state with a record is not final and has no observation (R102). -/
theorem not_final_of_faults {s : State} (h : s.faults ≠ []) : final s = false ∧ observe s = none := by
  have hfinal : final s = false := by rw [final, List.isEmpty_eq_false_iff.mpr h, Bool.and_false]
  exact ⟨hfinal, by rw [observe, hfinal]; rfl⟩

/-- Settles O33: what the step's turn records joins the end of the list, so a list that was not empty is not after. -/
theorem faultRecordsAreNeverRemoved : Obligations.FaultRecordsAreNeverRemoved := by
  intro s t hstep
  obtain ⟨x, rest, -, htake⟩ := step_next.mp hstep
  have hgrows : ∃ new, t.faults = s.faults ++ new ∧ new.length ≤ 1 := by
    obtain hsame | ⟨r, hr⟩ := takeTurn_faults htake
    · exact ⟨[], hsame.trans (List.append_nil _).symm, Nat.zero_le 1⟩
    · exact ⟨[r], hr, le_rfl⟩
  refine ⟨hgrows, fun hne => not_final_of_faults ?_⟩
  obtain ⟨new, hnew, -⟩ := hgrows
  exact hnew ▸ List.append_ne_nil_of_left_ne_nil hne new

/-- Settles O34: inside `measure` a label is an event's, a call is refused, and the client records no BusError. -/
theorem noBusErrorInsideMeasure : Obligations.NoBusErrorInsideMeasure := by
  intro s t hstep hact
  obtain ⟨x, rest, -, htake⟩ := step_next.mp hstep
  exact takeTurn_faults_inside_measure (s := s.setSchedule rest) hact htake

/-! ## One host (R118) -/

theorem issueTurn_refuses_busy {w : StepWords} {i : Instr} {s : State} (hd : decode w = .ok i)
    (hhost : agentOf i = .host) (hact : s.client.phase.active = true) : issueTurn w s = .refused .hostBusy := by
  simp only [issueTurn, hd, if_pos hhost, if_pos hact]

theorem measureTurn_refuses_busy {s : State} (hact : s.client.phase.active = true) (n : Word) :
    measureTurn n s = .refused .hostBusy := if_pos hact

/-- Settles O14: the turn of either kind finds the host busy. -/
theorem secondHostIsRefused : Obligations.SecondHostIsRefused := fun s rest hact =>
  ⟨fun _ _ hsched hd hhost => (step_of_schedule hsched).trans (issueTurn_refuses_busy hd hhost hact),
    fun n hsched => (step_of_schedule hsched).trans (measureTurn_refuses_busy (s := s.setSchedule rest) hact n)⟩

/-! ## The order of two steps (R112) -/

theorem runOps_pair {i j : Instr} {s t u : State} (hi : exec i s = .next t) (hj : exec j t = .next u) :
    runOps [i, j] s = .next u :=
  runOps_cons_next.mpr ⟨t, hi, runOps_cons_next.mpr ⟨u, hj, rfl⟩⟩

theorem exec_rdPin (s : State) : exec .rdPin s = .next (s.respond (some (.okData (zext16 s.input)))) := rfl

/-- Settles O22: the later of the wrap and the clear decides OVF, and a PIN read answers the level of its own step. -/
theorem orderOfStepsDecidesTheOutcome : Obligations.OrderOfStepsDecidesTheOutcome := by
  refine fun s => ⟨fun hrun hcount => ?_, fun hlow => ?_⟩
  · have hwrap : s.count + 1#16 = 0x0000#16 := by rw [hcount]; rfl
    have hovf (o : Bool) : ovfAfterTick s.count o = true := ovfAfterTick_of_wrap (wrapsAt_eq_true_iff.mpr hcount) o
    exact ⟨⟨_, runOps_pair (exec_tick_of_running hrun) (exec_wrStat _ _), hwrap, rfl⟩,
      ⟨_, runOps_pair (exec_wrStat _ s) (exec_tick_of_running hrun), hwrap, hovf _⟩⟩
  · have hread : (s.respond (some (.okData (zext16 s.input)))).resp = some (.okData 0x0000#16) := by
      rw [respond_resp, hlow, zext16_false]
    refine ⟨⟨_, runOps_pair (exec_inHigh s) (exec_rdPin _), ?_⟩, ⟨_, _, rfl, hread, rfl, rfl⟩⟩
    rw [respond_resp, respond_input, setInput_input, zext16_true]

end Sys2Proof.Proofs.Exceptions

/-! PROOFS of spec/70_reset_and_hazards.md: RESET (R121), and the power-on states a run starts from (R122, R123). -/

namespace Sys2Proof.Proofs.Reset

open Sys2Proof.Machine Sys2Proof.Proofs.Encoding Sys2Proof.Proofs.Counter

theorem exec_reset (s : State) : exec .reset s = .next (s.applyReset.respond none) := rfl

/-- Settles O38: the draws are those that the model's count of resets selects, and the label is the encoder's. -/
theorem resetDrawsAndClears : Obligations.ResetDrawsAndClears :=
  ⟨decodeReadsBackEveryEncoding .reset rfl, rfl, fun s =>
    ⟨Config.countReset s.draws, Config.ovfReset s.draws, Config.prevReset s.draws, s.draws + 1, exec_reset s⟩⟩

theorem exec_rdCtrl (s : State) : exec .rdCtrl s = .next (s.respond (some (.okData (zext16 s.run)))) := rfl

/-- A stopped block reads 0 in CTRL (R63). -/
theorem exec_rdCtrl_of_stopped {s : State} (hrun : s.run = false) :
    exec .rdCtrl s = .next (s.respond (some (.okData 0x0000#16))) := by
  rw [exec_rdCtrl, hrun, zext16_false]

theorem respond_of_resp_eq {s : State} {r : Option Response} (h : s.resp = r) : s.respond r = s := h ▸ rfl

/-- A tick of a stopped block clears the last response and nothing else, so where there is none it changes nothing. -/
theorem exec_tick_fixes_stopped {s : State} (hrun : s.run = false) (hresp : s.resp = none) :
    exec .tick s = .next s := by
  rw [exec_tick_of_stopped hrun, respond_of_resp_eq hresp]

/-- Settles O39: the fields are as power-on sets them, and the CTRL read and the tick find the counter stopped. -/
theorem powerOnIsStoppedAndFaultFree : Obligations.PowerOnIsStoppedAndFaultFree := by
  refine ⟨⟨_, _, _, _, rfl⟩, fun c o p lvl => ?_⟩
  have hrun : (State.powerOn c o p lvl).run = false := rfl
  have hresp : (State.powerOn c o p lvl).resp = none := rfl
  exact ⟨hrun, rfl, rfl, rfl, rfl, rfl, rfl, ⟨_, exec_rdCtrl_of_stopped hrun, respond_resp _ _⟩,
    exec_tick_fixes_stopped hrun hresp⟩

end Sys2Proof.Proofs.Reset
